-- ==== Sys2Proof/Word.lean ====
section
/-! DEFINITION. The two word types of the core (R8, R9): the data bus and the 8-bit registers are bytes, addresses and the
register pairs are 16 bits wide. Both are bit vectors: software adds, shifts and masks them. -/

namespace Sys2Proof

/-- An 8-bit value, u8 of R9. -/
abbrev Byte := BitVec 8

/-- A 16-bit value, u16 of R9: an address, SP, PC or a register pair. -/
abbrev Word := BitVec 16

end Sys2Proof
end

