-- ==== Sys2Proof/Machine/Bits.lean ====
section
/-! DEFINITION. Bytes and words: halves of a word, assembling one (R9's `a:b`, R52's byte order is decided by the callers),
and sign extension. -/

namespace Sys2Proof.Machine

/-- `w[15:8]`. -/
def hiByte (w : Word) : Byte := w.extractLsb' 8 8

/-- `w[7:0]`. -/
def loByte (w : Word) : Byte := w.extractLsb' 0 8

/-- `hi:lo` of R9: the word hi * 256 + lo. -/
def wordOf (hi lo : Byte) : Word := hi ++ lo

/-- `sext_8(v)` of R9 as a 16-bit value, for sums modulo 2^16. -/
def sext8 (v : Byte) : Word := v.signExtend 16

/-- The word 0xFF00 + a8 of R105: the high page's address at offset v. -/
def highPage (v : Byte) : Word := wordOf 0xFF#8 v

end Sys2Proof.Machine
end

