-- ==== Sys2Proof/Syntax.lean ====
section
/-! DEFINITION. The instructions: ONE inductive with one constructor for each row of spec/opcode_table.json (R117, R118 and
the eleven unrecognized bytes of R115): first the rows with an immediate, then the others, each in the table's order. A constructor is named after the row's assembler spelling (R103):
`ld_B_C` is `LD B,C`; an `m` before an operand is the memory byte at it, so `ld_A_mBC` is `LD A,(BC)` and `ld_mHLinc_A` is
`LD (HL+),A`. Its arguments are the immediates of R102: n8, e8 (the raw two's complement byte), a8, n16, a16.

After it stand the operand tables of R107, R108, R110, R112 and R114 as types, and for each group of rows that differ only in
such an operand the function from the operands to the row's constructor, so that a statement can speak of a whole group. -/

namespace Sys2Proof

inductive Instr
  | ld_BC_n16 (n : Word)  -- LD BC,n16, 01, R151
  | ld_B_n8 (n : Byte)  -- LD B,n8, 06, R135
  | ld_ma16_SP (a : Word)  -- LD (a16),SP, 08, R152
  | ld_C_n8 (n : Byte)  -- LD C,n8, 0E, R135
  | stop (n : Byte)  -- STOP, 10, R312
  | ld_DE_n16 (n : Word)  -- LD DE,n16, 11, R151
  | ld_D_n8 (n : Byte)  -- LD D,n8, 16, R135
  | jr_e8 (e : Byte)  -- JR e8, 18, R253
  | ld_E_n8 (n : Byte)  -- LD E,n8, 1E, R135
  | jr_NZ_e8 (e : Byte)  -- JR NZ,e8, 20, R254
  | ld_HL_n16 (n : Word)  -- LD HL,n16, 21, R151
  | ld_H_n8 (n : Byte)  -- LD H,n8, 26, R135
  | jr_Z_e8 (e : Byte)  -- JR Z,e8, 28, R254
  | ld_L_n8 (n : Byte)  -- LD L,n8, 2E, R135
  | jr_NC_e8 (e : Byte)  -- JR NC,e8, 30, R254
  | ld_SP_n16 (n : Word)  -- LD SP,n16, 31, R151
  | ld_mHL_n8 (n : Byte)  -- LD (HL),n8, 36, R136
  | jr_C_e8 (e : Byte)  -- JR C,e8, 38, R254
  | ld_A_n8 (n : Byte)  -- LD A,n8, 3E, R135
  | jp_NZ_a16 (a : Word)  -- JP NZ,a16, C2, R251
  | jp_a16 (a : Word)  -- JP a16, C3, R250
  | call_NZ_a16 (a : Word)  -- CALL NZ,a16, C4, R256
  | add_A_n8 (n : Byte)  -- ADD A,n8, C6, R189
  | jp_Z_a16 (a : Word)  -- JP Z,a16, CA, R251
  | call_Z_a16 (a : Word)  -- CALL Z,a16, CC, R256
  | call_a16 (a : Word)  -- CALL a16, CD, R255
  | adc_A_n8 (n : Byte)  -- ADC A,n8, CE, R192
  | jp_NC_a16 (a : Word)  -- JP NC,a16, D2, R251
  | call_NC_a16 (a : Word)  -- CALL NC,a16, D4, R256
  | sub_A_n8 (n : Byte)  -- SUB A,n8, D6, R195
  | jp_C_a16 (a : Word)  -- JP C,a16, DA, R251
  | call_C_a16 (a : Word)  -- CALL C,a16, DC, R256
  | sbc_A_n8 (n : Byte)  -- SBC A,n8, DE, R198
  | ldh_ma8_A (a : Byte)  -- LDH (a8),A, E0, R148
  | and_A_n8 (n : Byte)  -- AND A,n8, E6, R201
  | add_SP_e8 (e : Byte)  -- ADD SP,e8, E8, R233
  | ld_ma16_A (a : Word)  -- LD (a16),A, EA, R146
  | xor_A_n8 (n : Byte)  -- XOR A,n8, EE, R204
  | ldh_A_ma8 (a : Byte)  -- LDH A,(a8), F0, R147
  | or_A_n8 (n : Byte)  -- OR A,n8, F6, R207
  | ld_HL_SPe8 (e : Byte)  -- LD HL,SP+e8, F8, R234
  | ld_A_ma16 (a : Word)  -- LD A,(a16), FA, R145
  | cp_A_n8 (n : Byte)  -- CP A,n8, FE, R210
  | nop  -- NOP, 00, R310
  | ld_mBC_A  -- LD (BC),A, 02, R139
  | inc_BC  -- INC BC, 03, R231
  | inc_B  -- INC B, 04, R211
  | dec_B  -- DEC B, 05, R213
  | rlca  -- RLCA, 07, R219
  | add_HL_BC  -- ADD HL,BC, 09, R230
  | ld_A_mBC  -- LD A,(BC), 0A, R137
  | dec_BC  -- DEC BC, 0B, R232
  | inc_C  -- INC C, 0C, R211
  | dec_C  -- DEC C, 0D, R213
  | rrca  -- RRCA, 0F, R220
  | ld_mDE_A  -- LD (DE),A, 12, R140
  | inc_DE  -- INC DE, 13, R231
  | inc_D  -- INC D, 14, R211
  | dec_D  -- DEC D, 15, R213
  | rla  -- RLA, 17, R221
  | add_HL_DE  -- ADD HL,DE, 19, R230
  | ld_A_mDE  -- LD A,(DE), 1A, R138
  | dec_DE  -- DEC DE, 1B, R232
  | inc_E  -- INC E, 1C, R211
  | dec_E  -- DEC E, 1D, R213
  | rra  -- RRA, 1F, R222
  | ld_mHLinc_A  -- LD (HL+),A, 22, R143
  | inc_HL  -- INC HL, 23, R231
  | inc_H  -- INC H, 24, R211
  | dec_H  -- DEC H, 25, R213
  | daa  -- DAA, 27, R215
  | add_HL_HL  -- ADD HL,HL, 29, R230
  | ld_A_mHLinc  -- LD A,(HL+), 2A, R141
  | dec_HL  -- DEC HL, 2B, R232
  | inc_L  -- INC L, 2C, R211
  | dec_L  -- DEC L, 2D, R213
  | cpl  -- CPL, 2F, R216
  | ld_mHLdec_A  -- LD (HL-),A, 32, R144
  | inc_SP  -- INC SP, 33, R231
  | inc_mHL  -- INC (HL), 34, R212
  | dec_mHL  -- DEC (HL), 35, R214
  | scf  -- SCF, 37, R217
  | add_HL_SP  -- ADD HL,SP, 39, R230
  | ld_A_mHLdec  -- LD A,(HL-), 3A, R142
  | dec_SP  -- DEC SP, 3B, R232
  | inc_A  -- INC A, 3C, R211
  | dec_A  -- DEC A, 3D, R213
  | ccf  -- CCF, 3F, R218
  | ld_B_B  -- LD B,B, 40, R132
  | ld_B_C  -- LD B,C, 41, R132
  | ld_B_D  -- LD B,D, 42, R132
  | ld_B_E  -- LD B,E, 43, R132
  | ld_B_H  -- LD B,H, 44, R132
  | ld_B_L  -- LD B,L, 45, R132
  | ld_B_mHL  -- LD B,(HL), 46, R133
  | ld_B_A  -- LD B,A, 47, R132
  | ld_C_B  -- LD C,B, 48, R132
  | ld_C_C  -- LD C,C, 49, R132
  | ld_C_D  -- LD C,D, 4A, R132
  | ld_C_E  -- LD C,E, 4B, R132
  | ld_C_H  -- LD C,H, 4C, R132
  | ld_C_L  -- LD C,L, 4D, R132
  | ld_C_mHL  -- LD C,(HL), 4E, R133
  | ld_C_A  -- LD C,A, 4F, R132
  | ld_D_B  -- LD D,B, 50, R132
  | ld_D_C  -- LD D,C, 51, R132
  | ld_D_D  -- LD D,D, 52, R132
  | ld_D_E  -- LD D,E, 53, R132
  | ld_D_H  -- LD D,H, 54, R132
  | ld_D_L  -- LD D,L, 55, R132
  | ld_D_mHL  -- LD D,(HL), 56, R133
  | ld_D_A  -- LD D,A, 57, R132
  | ld_E_B  -- LD E,B, 58, R132
  | ld_E_C  -- LD E,C, 59, R132
  | ld_E_D  -- LD E,D, 5A, R132
  | ld_E_E  -- LD E,E, 5B, R132
  | ld_E_H  -- LD E,H, 5C, R132
  | ld_E_L  -- LD E,L, 5D, R132
  | ld_E_mHL  -- LD E,(HL), 5E, R133
  | ld_E_A  -- LD E,A, 5F, R132
  | ld_H_B  -- LD H,B, 60, R132
  | ld_H_C  -- LD H,C, 61, R132
  | ld_H_D  -- LD H,D, 62, R132
  | ld_H_E  -- LD H,E, 63, R132
  | ld_H_H  -- LD H,H, 64, R132
  | ld_H_L  -- LD H,L, 65, R132
  | ld_H_mHL  -- LD H,(HL), 66, R133
  | ld_H_A  -- LD H,A, 67, R132
  | ld_L_B  -- LD L,B, 68, R132
  | ld_L_C  -- LD L,C, 69, R132
  | ld_L_D  -- LD L,D, 6A, R132
  | ld_L_E  -- LD L,E, 6B, R132
  | ld_L_H  -- LD L,H, 6C, R132
  | ld_L_L  -- LD L,L, 6D, R132
  | ld_L_mHL  -- LD L,(HL), 6E, R133
  | ld_L_A  -- LD L,A, 6F, R132
  | ld_mHL_B  -- LD (HL),B, 70, R134
  | ld_mHL_C  -- LD (HL),C, 71, R134
  | ld_mHL_D  -- LD (HL),D, 72, R134
  | ld_mHL_E  -- LD (HL),E, 73, R134
  | ld_mHL_H  -- LD (HL),H, 74, R134
  | ld_mHL_L  -- LD (HL),L, 75, R134
  | halt  -- HALT, 76, R311
  | ld_mHL_A  -- LD (HL),A, 77, R134
  | ld_A_B  -- LD A,B, 78, R132
  | ld_A_C  -- LD A,C, 79, R132
  | ld_A_D  -- LD A,D, 7A, R132
  | ld_A_E  -- LD A,E, 7B, R132
  | ld_A_H  -- LD A,H, 7C, R132
  | ld_A_L  -- LD A,L, 7D, R132
  | ld_A_mHL  -- LD A,(HL), 7E, R133
  | ld_A_A  -- LD A,A, 7F, R132
  | add_A_B  -- ADD A,B, 80, R187
  | add_A_C  -- ADD A,C, 81, R187
  | add_A_D  -- ADD A,D, 82, R187
  | add_A_E  -- ADD A,E, 83, R187
  | add_A_H  -- ADD A,H, 84, R187
  | add_A_L  -- ADD A,L, 85, R187
  | add_A_mHL  -- ADD A,(HL), 86, R188
  | add_A_A  -- ADD A,A, 87, R187
  | adc_A_B  -- ADC A,B, 88, R190
  | adc_A_C  -- ADC A,C, 89, R190
  | adc_A_D  -- ADC A,D, 8A, R190
  | adc_A_E  -- ADC A,E, 8B, R190
  | adc_A_H  -- ADC A,H, 8C, R190
  | adc_A_L  -- ADC A,L, 8D, R190
  | adc_A_mHL  -- ADC A,(HL), 8E, R191
  | adc_A_A  -- ADC A,A, 8F, R190
  | sub_A_B  -- SUB A,B, 90, R193
  | sub_A_C  -- SUB A,C, 91, R193
  | sub_A_D  -- SUB A,D, 92, R193
  | sub_A_E  -- SUB A,E, 93, R193
  | sub_A_H  -- SUB A,H, 94, R193
  | sub_A_L  -- SUB A,L, 95, R193
  | sub_A_mHL  -- SUB A,(HL), 96, R194
  | sub_A_A  -- SUB A,A, 97, R193
  | sbc_A_B  -- SBC A,B, 98, R196
  | sbc_A_C  -- SBC A,C, 99, R196
  | sbc_A_D  -- SBC A,D, 9A, R196
  | sbc_A_E  -- SBC A,E, 9B, R196
  | sbc_A_H  -- SBC A,H, 9C, R196
  | sbc_A_L  -- SBC A,L, 9D, R196
  | sbc_A_mHL  -- SBC A,(HL), 9E, R197
  | sbc_A_A  -- SBC A,A, 9F, R196
  | and_A_B  -- AND A,B, A0, R199
  | and_A_C  -- AND A,C, A1, R199
  | and_A_D  -- AND A,D, A2, R199
  | and_A_E  -- AND A,E, A3, R199
  | and_A_H  -- AND A,H, A4, R199
  | and_A_L  -- AND A,L, A5, R199
  | and_A_mHL  -- AND A,(HL), A6, R200
  | and_A_A  -- AND A,A, A7, R199
  | xor_A_B  -- XOR A,B, A8, R202
  | xor_A_C  -- XOR A,C, A9, R202
  | xor_A_D  -- XOR A,D, AA, R202
  | xor_A_E  -- XOR A,E, AB, R202
  | xor_A_H  -- XOR A,H, AC, R202
  | xor_A_L  -- XOR A,L, AD, R202
  | xor_A_mHL  -- XOR A,(HL), AE, R203
  | xor_A_A  -- XOR A,A, AF, R202
  | or_A_B  -- OR A,B, B0, R205
  | or_A_C  -- OR A,C, B1, R205
  | or_A_D  -- OR A,D, B2, R205
  | or_A_E  -- OR A,E, B3, R205
  | or_A_H  -- OR A,H, B4, R205
  | or_A_L  -- OR A,L, B5, R205
  | or_A_mHL  -- OR A,(HL), B6, R206
  | or_A_A  -- OR A,A, B7, R205
  | cp_A_B  -- CP A,B, B8, R208
  | cp_A_C  -- CP A,C, B9, R208
  | cp_A_D  -- CP A,D, BA, R208
  | cp_A_E  -- CP A,E, BB, R208
  | cp_A_H  -- CP A,H, BC, R208
  | cp_A_L  -- CP A,L, BD, R208
  | cp_A_mHL  -- CP A,(HL), BE, R209
  | cp_A_A  -- CP A,A, BF, R208
  | ret_NZ  -- RET NZ, C0, R258
  | pop_BC  -- POP BC, C1, R155
  | push_BC  -- PUSH BC, C5, R154
  | rst_00  -- RST 0x00, C7, R260
  | ret_Z  -- RET Z, C8, R258
  | ret  -- RET, C9, R257
  | rst_08  -- RST 0x08, CF, R260
  | ret_NC  -- RET NC, D0, R258
  | pop_DE  -- POP DE, D1, R155
  | unrecognized_D3  -- (unrecognized 0xD3), D3, R315
  | push_DE  -- PUSH DE, D5, R154
  | rst_10  -- RST 0x10, D7, R260
  | ret_C  -- RET C, D8, R258
  | reti  -- RETI, D9, R259
  | unrecognized_DB  -- (unrecognized 0xDB), DB, R315
  | unrecognized_DD  -- (unrecognized 0xDD), DD, R315
  | rst_18  -- RST 0x18, DF, R260
  | pop_HL  -- POP HL, E1, R155
  | ld_mC_A  -- LD (C),A, E2, R150
  | unrecognized_E3  -- (unrecognized 0xE3), E3, R315
  | unrecognized_E4  -- (unrecognized 0xE4), E4, R315
  | push_HL  -- PUSH HL, E5, R154
  | rst_20  -- RST 0x20, E7, R260
  | jp_HL  -- JP HL, E9, R252
  | unrecognized_EB  -- (unrecognized 0xEB), EB, R315
  | unrecognized_EC  -- (unrecognized 0xEC), EC, R315
  | unrecognized_ED  -- (unrecognized 0xED), ED, R315
  | rst_28  -- RST 0x28, EF, R260
  | pop_AF  -- POP AF, F1, R156
  | ld_A_mC  -- LD A,(C), F2, R149
  | di  -- DI, F3, R313
  | unrecognized_F4  -- (unrecognized 0xF4), F4, R315
  | push_AF  -- PUSH AF, F5, R154
  | rst_30  -- RST 0x30, F7, R260
  | ld_SP_HL  -- LD SP,HL, F9, R153
  | ei  -- EI, FB, R314
  | unrecognized_FC  -- (unrecognized 0xFC), FC, R315
  | unrecognized_FD  -- (unrecognized 0xFD), FD, R315
  | rst_38  -- RST 0x38, FF, R260
  | rlc_B  -- RLC B, CB 00, R281
  | rlc_C  -- RLC C, CB 01, R281
  | rlc_D  -- RLC D, CB 02, R281
  | rlc_E  -- RLC E, CB 03, R281
  | rlc_H  -- RLC H, CB 04, R281
  | rlc_L  -- RLC L, CB 05, R281
  | rlc_mHL  -- RLC (HL), CB 06, R282
  | rlc_A  -- RLC A, CB 07, R281
  | rrc_B  -- RRC B, CB 08, R283
  | rrc_C  -- RRC C, CB 09, R283
  | rrc_D  -- RRC D, CB 0A, R283
  | rrc_E  -- RRC E, CB 0B, R283
  | rrc_H  -- RRC H, CB 0C, R283
  | rrc_L  -- RRC L, CB 0D, R283
  | rrc_mHL  -- RRC (HL), CB 0E, R284
  | rrc_A  -- RRC A, CB 0F, R283
  | rl_B  -- RL B, CB 10, R285
  | rl_C  -- RL C, CB 11, R285
  | rl_D  -- RL D, CB 12, R285
  | rl_E  -- RL E, CB 13, R285
  | rl_H  -- RL H, CB 14, R285
  | rl_L  -- RL L, CB 15, R285
  | rl_mHL  -- RL (HL), CB 16, R286
  | rl_A  -- RL A, CB 17, R285
  | rr_B  -- RR B, CB 18, R287
  | rr_C  -- RR C, CB 19, R287
  | rr_D  -- RR D, CB 1A, R287
  | rr_E  -- RR E, CB 1B, R287
  | rr_H  -- RR H, CB 1C, R287
  | rr_L  -- RR L, CB 1D, R287
  | rr_mHL  -- RR (HL), CB 1E, R288
  | rr_A  -- RR A, CB 1F, R287
  | sla_B  -- SLA B, CB 20, R289
  | sla_C  -- SLA C, CB 21, R289
  | sla_D  -- SLA D, CB 22, R289
  | sla_E  -- SLA E, CB 23, R289
  | sla_H  -- SLA H, CB 24, R289
  | sla_L  -- SLA L, CB 25, R289
  | sla_mHL  -- SLA (HL), CB 26, R290
  | sla_A  -- SLA A, CB 27, R289
  | sra_B  -- SRA B, CB 28, R291
  | sra_C  -- SRA C, CB 29, R291
  | sra_D  -- SRA D, CB 2A, R291
  | sra_E  -- SRA E, CB 2B, R291
  | sra_H  -- SRA H, CB 2C, R291
  | sra_L  -- SRA L, CB 2D, R291
  | sra_mHL  -- SRA (HL), CB 2E, R292
  | sra_A  -- SRA A, CB 2F, R291
  | swap_B  -- SWAP B, CB 30, R293
  | swap_C  -- SWAP C, CB 31, R293
  | swap_D  -- SWAP D, CB 32, R293
  | swap_E  -- SWAP E, CB 33, R293
  | swap_H  -- SWAP H, CB 34, R293
  | swap_L  -- SWAP L, CB 35, R293
  | swap_mHL  -- SWAP (HL), CB 36, R294
  | swap_A  -- SWAP A, CB 37, R293
  | srl_B  -- SRL B, CB 38, R295
  | srl_C  -- SRL C, CB 39, R295
  | srl_D  -- SRL D, CB 3A, R295
  | srl_E  -- SRL E, CB 3B, R295
  | srl_H  -- SRL H, CB 3C, R295
  | srl_L  -- SRL L, CB 3D, R295
  | srl_mHL  -- SRL (HL), CB 3E, R296
  | srl_A  -- SRL A, CB 3F, R295
  | bit_0_B  -- BIT 0,B, CB 40, R297
  | bit_0_C  -- BIT 0,C, CB 41, R297
  | bit_0_D  -- BIT 0,D, CB 42, R297
  | bit_0_E  -- BIT 0,E, CB 43, R297
  | bit_0_H  -- BIT 0,H, CB 44, R297
  | bit_0_L  -- BIT 0,L, CB 45, R297
  | bit_0_mHL  -- BIT 0,(HL), CB 46, R298
  | bit_0_A  -- BIT 0,A, CB 47, R297
  | bit_1_B  -- BIT 1,B, CB 48, R297
  | bit_1_C  -- BIT 1,C, CB 49, R297
  | bit_1_D  -- BIT 1,D, CB 4A, R297
  | bit_1_E  -- BIT 1,E, CB 4B, R297
  | bit_1_H  -- BIT 1,H, CB 4C, R297
  | bit_1_L  -- BIT 1,L, CB 4D, R297
  | bit_1_mHL  -- BIT 1,(HL), CB 4E, R298
  | bit_1_A  -- BIT 1,A, CB 4F, R297
  | bit_2_B  -- BIT 2,B, CB 50, R297
  | bit_2_C  -- BIT 2,C, CB 51, R297
  | bit_2_D  -- BIT 2,D, CB 52, R297
  | bit_2_E  -- BIT 2,E, CB 53, R297
  | bit_2_H  -- BIT 2,H, CB 54, R297
  | bit_2_L  -- BIT 2,L, CB 55, R297
  | bit_2_mHL  -- BIT 2,(HL), CB 56, R298
  | bit_2_A  -- BIT 2,A, CB 57, R297
  | bit_3_B  -- BIT 3,B, CB 58, R297
  | bit_3_C  -- BIT 3,C, CB 59, R297
  | bit_3_D  -- BIT 3,D, CB 5A, R297
  | bit_3_E  -- BIT 3,E, CB 5B, R297
  | bit_3_H  -- BIT 3,H, CB 5C, R297
  | bit_3_L  -- BIT 3,L, CB 5D, R297
  | bit_3_mHL  -- BIT 3,(HL), CB 5E, R298
  | bit_3_A  -- BIT 3,A, CB 5F, R297
  | bit_4_B  -- BIT 4,B, CB 60, R297
  | bit_4_C  -- BIT 4,C, CB 61, R297
  | bit_4_D  -- BIT 4,D, CB 62, R297
  | bit_4_E  -- BIT 4,E, CB 63, R297
  | bit_4_H  -- BIT 4,H, CB 64, R297
  | bit_4_L  -- BIT 4,L, CB 65, R297
  | bit_4_mHL  -- BIT 4,(HL), CB 66, R298
  | bit_4_A  -- BIT 4,A, CB 67, R297
  | bit_5_B  -- BIT 5,B, CB 68, R297
  | bit_5_C  -- BIT 5,C, CB 69, R297
  | bit_5_D  -- BIT 5,D, CB 6A, R297
  | bit_5_E  -- BIT 5,E, CB 6B, R297
  | bit_5_H  -- BIT 5,H, CB 6C, R297
  | bit_5_L  -- BIT 5,L, CB 6D, R297
  | bit_5_mHL  -- BIT 5,(HL), CB 6E, R298
  | bit_5_A  -- BIT 5,A, CB 6F, R297
  | bit_6_B  -- BIT 6,B, CB 70, R297
  | bit_6_C  -- BIT 6,C, CB 71, R297
  | bit_6_D  -- BIT 6,D, CB 72, R297
  | bit_6_E  -- BIT 6,E, CB 73, R297
  | bit_6_H  -- BIT 6,H, CB 74, R297
  | bit_6_L  -- BIT 6,L, CB 75, R297
  | bit_6_mHL  -- BIT 6,(HL), CB 76, R298
  | bit_6_A  -- BIT 6,A, CB 77, R297
  | bit_7_B  -- BIT 7,B, CB 78, R297
  | bit_7_C  -- BIT 7,C, CB 79, R297
  | bit_7_D  -- BIT 7,D, CB 7A, R297
  | bit_7_E  -- BIT 7,E, CB 7B, R297
  | bit_7_H  -- BIT 7,H, CB 7C, R297
  | bit_7_L  -- BIT 7,L, CB 7D, R297
  | bit_7_mHL  -- BIT 7,(HL), CB 7E, R298
  | bit_7_A  -- BIT 7,A, CB 7F, R297
  | res_0_B  -- RES 0,B, CB 80, R299
  | res_0_C  -- RES 0,C, CB 81, R299
  | res_0_D  -- RES 0,D, CB 82, R299
  | res_0_E  -- RES 0,E, CB 83, R299
  | res_0_H  -- RES 0,H, CB 84, R299
  | res_0_L  -- RES 0,L, CB 85, R299
  | res_0_mHL  -- RES 0,(HL), CB 86, R300
  | res_0_A  -- RES 0,A, CB 87, R299
  | res_1_B  -- RES 1,B, CB 88, R299
  | res_1_C  -- RES 1,C, CB 89, R299
  | res_1_D  -- RES 1,D, CB 8A, R299
  | res_1_E  -- RES 1,E, CB 8B, R299
  | res_1_H  -- RES 1,H, CB 8C, R299
  | res_1_L  -- RES 1,L, CB 8D, R299
  | res_1_mHL  -- RES 1,(HL), CB 8E, R300
  | res_1_A  -- RES 1,A, CB 8F, R299
  | res_2_B  -- RES 2,B, CB 90, R299
  | res_2_C  -- RES 2,C, CB 91, R299
  | res_2_D  -- RES 2,D, CB 92, R299
  | res_2_E  -- RES 2,E, CB 93, R299
  | res_2_H  -- RES 2,H, CB 94, R299
  | res_2_L  -- RES 2,L, CB 95, R299
  | res_2_mHL  -- RES 2,(HL), CB 96, R300
  | res_2_A  -- RES 2,A, CB 97, R299
  | res_3_B  -- RES 3,B, CB 98, R299
  | res_3_C  -- RES 3,C, CB 99, R299
  | res_3_D  -- RES 3,D, CB 9A, R299
  | res_3_E  -- RES 3,E, CB 9B, R299
  | res_3_H  -- RES 3,H, CB 9C, R299
  | res_3_L  -- RES 3,L, CB 9D, R299
  | res_3_mHL  -- RES 3,(HL), CB 9E, R300
  | res_3_A  -- RES 3,A, CB 9F, R299
  | res_4_B  -- RES 4,B, CB A0, R299
  | res_4_C  -- RES 4,C, CB A1, R299
  | res_4_D  -- RES 4,D, CB A2, R299
  | res_4_E  -- RES 4,E, CB A3, R299
  | res_4_H  -- RES 4,H, CB A4, R299
  | res_4_L  -- RES 4,L, CB A5, R299
  | res_4_mHL  -- RES 4,(HL), CB A6, R300
  | res_4_A  -- RES 4,A, CB A7, R299
  | res_5_B  -- RES 5,B, CB A8, R299
  | res_5_C  -- RES 5,C, CB A9, R299
  | res_5_D  -- RES 5,D, CB AA, R299
  | res_5_E  -- RES 5,E, CB AB, R299
  | res_5_H  -- RES 5,H, CB AC, R299
  | res_5_L  -- RES 5,L, CB AD, R299
  | res_5_mHL  -- RES 5,(HL), CB AE, R300
  | res_5_A  -- RES 5,A, CB AF, R299
  | res_6_B  -- RES 6,B, CB B0, R299
  | res_6_C  -- RES 6,C, CB B1, R299
  | res_6_D  -- RES 6,D, CB B2, R299
  | res_6_E  -- RES 6,E, CB B3, R299
  | res_6_H  -- RES 6,H, CB B4, R299
  | res_6_L  -- RES 6,L, CB B5, R299
  | res_6_mHL  -- RES 6,(HL), CB B6, R300
  | res_6_A  -- RES 6,A, CB B7, R299
  | res_7_B  -- RES 7,B, CB B8, R299
  | res_7_C  -- RES 7,C, CB B9, R299
  | res_7_D  -- RES 7,D, CB BA, R299
  | res_7_E  -- RES 7,E, CB BB, R299
  | res_7_H  -- RES 7,H, CB BC, R299
  | res_7_L  -- RES 7,L, CB BD, R299
  | res_7_mHL  -- RES 7,(HL), CB BE, R300
  | res_7_A  -- RES 7,A, CB BF, R299
  | set_0_B  -- SET 0,B, CB C0, R301
  | set_0_C  -- SET 0,C, CB C1, R301
  | set_0_D  -- SET 0,D, CB C2, R301
  | set_0_E  -- SET 0,E, CB C3, R301
  | set_0_H  -- SET 0,H, CB C4, R301
  | set_0_L  -- SET 0,L, CB C5, R301
  | set_0_mHL  -- SET 0,(HL), CB C6, R302
  | set_0_A  -- SET 0,A, CB C7, R301
  | set_1_B  -- SET 1,B, CB C8, R301
  | set_1_C  -- SET 1,C, CB C9, R301
  | set_1_D  -- SET 1,D, CB CA, R301
  | set_1_E  -- SET 1,E, CB CB, R301
  | set_1_H  -- SET 1,H, CB CC, R301
  | set_1_L  -- SET 1,L, CB CD, R301
  | set_1_mHL  -- SET 1,(HL), CB CE, R302
  | set_1_A  -- SET 1,A, CB CF, R301
  | set_2_B  -- SET 2,B, CB D0, R301
  | set_2_C  -- SET 2,C, CB D1, R301
  | set_2_D  -- SET 2,D, CB D2, R301
  | set_2_E  -- SET 2,E, CB D3, R301
  | set_2_H  -- SET 2,H, CB D4, R301
  | set_2_L  -- SET 2,L, CB D5, R301
  | set_2_mHL  -- SET 2,(HL), CB D6, R302
  | set_2_A  -- SET 2,A, CB D7, R301
  | set_3_B  -- SET 3,B, CB D8, R301
  | set_3_C  -- SET 3,C, CB D9, R301
  | set_3_D  -- SET 3,D, CB DA, R301
  | set_3_E  -- SET 3,E, CB DB, R301
  | set_3_H  -- SET 3,H, CB DC, R301
  | set_3_L  -- SET 3,L, CB DD, R301
  | set_3_mHL  -- SET 3,(HL), CB DE, R302
  | set_3_A  -- SET 3,A, CB DF, R301
  | set_4_B  -- SET 4,B, CB E0, R301
  | set_4_C  -- SET 4,C, CB E1, R301
  | set_4_D  -- SET 4,D, CB E2, R301
  | set_4_E  -- SET 4,E, CB E3, R301
  | set_4_H  -- SET 4,H, CB E4, R301
  | set_4_L  -- SET 4,L, CB E5, R301
  | set_4_mHL  -- SET 4,(HL), CB E6, R302
  | set_4_A  -- SET 4,A, CB E7, R301
  | set_5_B  -- SET 5,B, CB E8, R301
  | set_5_C  -- SET 5,C, CB E9, R301
  | set_5_D  -- SET 5,D, CB EA, R301
  | set_5_E  -- SET 5,E, CB EB, R301
  | set_5_H  -- SET 5,H, CB EC, R301
  | set_5_L  -- SET 5,L, CB ED, R301
  | set_5_mHL  -- SET 5,(HL), CB EE, R302
  | set_5_A  -- SET 5,A, CB EF, R301
  | set_6_B  -- SET 6,B, CB F0, R301
  | set_6_C  -- SET 6,C, CB F1, R301
  | set_6_D  -- SET 6,D, CB F2, R301
  | set_6_E  -- SET 6,E, CB F3, R301
  | set_6_H  -- SET 6,H, CB F4, R301
  | set_6_L  -- SET 6,L, CB F5, R301
  | set_6_mHL  -- SET 6,(HL), CB F6, R302
  | set_6_A  -- SET 6,A, CB F7, R301
  | set_7_B  -- SET 7,B, CB F8, R301
  | set_7_C  -- SET 7,C, CB F9, R301
  | set_7_D  -- SET 7,D, CB FA, R301
  | set_7_E  -- SET 7,E, CB FB, R301
  | set_7_H  -- SET 7,H, CB FC, R301
  | set_7_L  -- SET 7,L, CB FD, R301
  | set_7_mHL  -- SET 7,(HL), CB FE, R302
  | set_7_A  -- SET 7,A, CB FF, R301
deriving DecidableEq, Repr

/-! ### Operands -/

/-- The registers of the operand table r8 (R107). -/
inductive Reg8 | b | c | d | e | h | l | a
deriving DecidableEq, Repr

/-- The operand table r8 itself (R107): a register, or at index 6 the memory byte at address HL. -/
inductive Loc8 | reg (r : Reg8) | mHL
deriving DecidableEq, Repr

/-- The pair table r16 (R108). -/
inductive Reg16 | bc | de | hl | sp
deriving DecidableEq, Repr

/-- The pair table r16stk (R108), of PUSH and POP. -/
inductive Reg16Stk | bc | de | hl | af
deriving DecidableEq, Repr

/-- The condition codes (R110). -/
inductive Cond | nz | z | nc | c
deriving DecidableEq, Repr

/-- The accumulator operations ALU[y] (R112, R185). -/
inductive AluOp | add | adc | sub | sbc | and | xor | or | cp
deriving DecidableEq, Repr

/-- The second operand of an accumulator operation (R185): an r8 operand, or an immediate byte. -/
inductive AluSrc | loc (x : Loc8) | imm (n : Byte)
deriving DecidableEq, Repr

/-- The rotates and shifts ROT[y] (R114, R280). -/
inductive RotOp | rlc | rrc | rl | rr | sla | sra | swap | srl
deriving DecidableEq, Repr

/-- A 3-bit opcode field that is itself a number: the bit number b of BIT, RES and SET, and y of RST (R104, R105). -/
inductive Field3 | n0 | n1 | n2 | n3 | n4 | n5 | n6 | n7
deriving DecidableEq, Repr

/-! ### Groups of rows by their operands -/

/-- `LD r,r'` (R132). -/
def Instr.ldReg : Reg8 → Reg8 → Instr
  | .b, .b => .ld_B_B
  | .b, .c => .ld_B_C
  | .b, .d => .ld_B_D
  | .b, .e => .ld_B_E
  | .b, .h => .ld_B_H
  | .b, .l => .ld_B_L
  | .b, .a => .ld_B_A
  | .c, .b => .ld_C_B
  | .c, .c => .ld_C_C
  | .c, .d => .ld_C_D
  | .c, .e => .ld_C_E
  | .c, .h => .ld_C_H
  | .c, .l => .ld_C_L
  | .c, .a => .ld_C_A
  | .d, .b => .ld_D_B
  | .d, .c => .ld_D_C
  | .d, .d => .ld_D_D
  | .d, .e => .ld_D_E
  | .d, .h => .ld_D_H
  | .d, .l => .ld_D_L
  | .d, .a => .ld_D_A
  | .e, .b => .ld_E_B
  | .e, .c => .ld_E_C
  | .e, .d => .ld_E_D
  | .e, .e => .ld_E_E
  | .e, .h => .ld_E_H
  | .e, .l => .ld_E_L
  | .e, .a => .ld_E_A
  | .h, .b => .ld_H_B
  | .h, .c => .ld_H_C
  | .h, .d => .ld_H_D
  | .h, .e => .ld_H_E
  | .h, .h => .ld_H_H
  | .h, .l => .ld_H_L
  | .h, .a => .ld_H_A
  | .l, .b => .ld_L_B
  | .l, .c => .ld_L_C
  | .l, .d => .ld_L_D
  | .l, .e => .ld_L_E
  | .l, .h => .ld_L_H
  | .l, .l => .ld_L_L
  | .l, .a => .ld_L_A
  | .a, .b => .ld_A_B
  | .a, .c => .ld_A_C
  | .a, .d => .ld_A_D
  | .a, .e => .ld_A_E
  | .a, .h => .ld_A_H
  | .a, .l => .ld_A_L
  | .a, .a => .ld_A_A

/-- `LD r,(HL)` (R133). -/
def Instr.ldRegMem : Reg8 → Instr
  | .b => .ld_B_mHL
  | .c => .ld_C_mHL
  | .d => .ld_D_mHL
  | .e => .ld_E_mHL
  | .h => .ld_H_mHL
  | .l => .ld_L_mHL
  | .a => .ld_A_mHL

/-- `LD (HL),r` (R134). -/
def Instr.ldMemReg : Reg8 → Instr
  | .b => .ld_mHL_B
  | .c => .ld_mHL_C
  | .d => .ld_mHL_D
  | .e => .ld_mHL_E
  | .h => .ld_mHL_H
  | .l => .ld_mHL_L
  | .a => .ld_mHL_A

/-- `LD r,n8` (R135). -/
def Instr.ldRegImm : Reg8 → Byte → Instr
  | .b, n => .ld_B_n8 n
  | .c, n => .ld_C_n8 n
  | .d, n => .ld_D_n8 n
  | .e, n => .ld_E_n8 n
  | .h, n => .ld_H_n8 n
  | .l, n => .ld_L_n8 n
  | .a, n => .ld_A_n8 n

/-- `LD rr,n16` (R151). -/
def Instr.ldR16 : Reg16 → Word → Instr
  | .bc, n => .ld_BC_n16 n
  | .de, n => .ld_DE_n16 n
  | .hl, n => .ld_HL_n16 n
  | .sp, n => .ld_SP_n16 n

/-- `PUSH rr` (R154). -/
def Instr.push : Reg16Stk → Instr
  | .bc => .push_BC
  | .de => .push_DE
  | .hl => .push_HL
  | .af => .push_AF

/-- `POP rr` (R155), and `POP AF` (R156). -/
def Instr.pop : Reg16Stk → Instr
  | .bc => .pop_BC
  | .de => .pop_DE
  | .hl => .pop_HL
  | .af => .pop_AF

/-- The accumulator operations (R185, R187 to R210). -/
def Instr.alu : AluOp → AluSrc → Instr
  | .add, .loc (.reg .b) => .add_A_B
  | .add, .loc (.reg .c) => .add_A_C
  | .add, .loc (.reg .d) => .add_A_D
  | .add, .loc (.reg .e) => .add_A_E
  | .add, .loc (.reg .h) => .add_A_H
  | .add, .loc (.reg .l) => .add_A_L
  | .add, .loc .mHL => .add_A_mHL
  | .add, .loc (.reg .a) => .add_A_A
  | .adc, .loc (.reg .b) => .adc_A_B
  | .adc, .loc (.reg .c) => .adc_A_C
  | .adc, .loc (.reg .d) => .adc_A_D
  | .adc, .loc (.reg .e) => .adc_A_E
  | .adc, .loc (.reg .h) => .adc_A_H
  | .adc, .loc (.reg .l) => .adc_A_L
  | .adc, .loc .mHL => .adc_A_mHL
  | .adc, .loc (.reg .a) => .adc_A_A
  | .sub, .loc (.reg .b) => .sub_A_B
  | .sub, .loc (.reg .c) => .sub_A_C
  | .sub, .loc (.reg .d) => .sub_A_D
  | .sub, .loc (.reg .e) => .sub_A_E
  | .sub, .loc (.reg .h) => .sub_A_H
  | .sub, .loc (.reg .l) => .sub_A_L
  | .sub, .loc .mHL => .sub_A_mHL
  | .sub, .loc (.reg .a) => .sub_A_A
  | .sbc, .loc (.reg .b) => .sbc_A_B
  | .sbc, .loc (.reg .c) => .sbc_A_C
  | .sbc, .loc (.reg .d) => .sbc_A_D
  | .sbc, .loc (.reg .e) => .sbc_A_E
  | .sbc, .loc (.reg .h) => .sbc_A_H
  | .sbc, .loc (.reg .l) => .sbc_A_L
  | .sbc, .loc .mHL => .sbc_A_mHL
  | .sbc, .loc (.reg .a) => .sbc_A_A
  | .and, .loc (.reg .b) => .and_A_B
  | .and, .loc (.reg .c) => .and_A_C
  | .and, .loc (.reg .d) => .and_A_D
  | .and, .loc (.reg .e) => .and_A_E
  | .and, .loc (.reg .h) => .and_A_H
  | .and, .loc (.reg .l) => .and_A_L
  | .and, .loc .mHL => .and_A_mHL
  | .and, .loc (.reg .a) => .and_A_A
  | .xor, .loc (.reg .b) => .xor_A_B
  | .xor, .loc (.reg .c) => .xor_A_C
  | .xor, .loc (.reg .d) => .xor_A_D
  | .xor, .loc (.reg .e) => .xor_A_E
  | .xor, .loc (.reg .h) => .xor_A_H
  | .xor, .loc (.reg .l) => .xor_A_L
  | .xor, .loc .mHL => .xor_A_mHL
  | .xor, .loc (.reg .a) => .xor_A_A
  | .or, .loc (.reg .b) => .or_A_B
  | .or, .loc (.reg .c) => .or_A_C
  | .or, .loc (.reg .d) => .or_A_D
  | .or, .loc (.reg .e) => .or_A_E
  | .or, .loc (.reg .h) => .or_A_H
  | .or, .loc (.reg .l) => .or_A_L
  | .or, .loc .mHL => .or_A_mHL
  | .or, .loc (.reg .a) => .or_A_A
  | .cp, .loc (.reg .b) => .cp_A_B
  | .cp, .loc (.reg .c) => .cp_A_C
  | .cp, .loc (.reg .d) => .cp_A_D
  | .cp, .loc (.reg .e) => .cp_A_E
  | .cp, .loc (.reg .h) => .cp_A_H
  | .cp, .loc (.reg .l) => .cp_A_L
  | .cp, .loc .mHL => .cp_A_mHL
  | .cp, .loc (.reg .a) => .cp_A_A
  | .add, .imm n => .add_A_n8 n
  | .adc, .imm n => .adc_A_n8 n
  | .sub, .imm n => .sub_A_n8 n
  | .sbc, .imm n => .sbc_A_n8 n
  | .and, .imm n => .and_A_n8 n
  | .xor, .imm n => .xor_A_n8 n
  | .or, .imm n => .or_A_n8 n
  | .cp, .imm n => .cp_A_n8 n

/-- `INC r` and `INC (HL)` (R211, R212). -/
def Instr.inc8 : Loc8 → Instr
  | .reg .b => .inc_B
  | .reg .c => .inc_C
  | .reg .d => .inc_D
  | .reg .e => .inc_E
  | .reg .h => .inc_H
  | .reg .l => .inc_L
  | .mHL => .inc_mHL
  | .reg .a => .inc_A

/-- `DEC r` and `DEC (HL)` (R213, R214). -/
def Instr.dec8 : Loc8 → Instr
  | .reg .b => .dec_B
  | .reg .c => .dec_C
  | .reg .d => .dec_D
  | .reg .e => .dec_E
  | .reg .h => .dec_H
  | .reg .l => .dec_L
  | .mHL => .dec_mHL
  | .reg .a => .dec_A

/-- `ADD HL,rr` (R230). -/
def Instr.addHL : Reg16 → Instr
  | .bc => .add_HL_BC
  | .de => .add_HL_DE
  | .hl => .add_HL_HL
  | .sp => .add_HL_SP

/-- `INC rr` (R231). -/
def Instr.inc16 : Reg16 → Instr
  | .bc => .inc_BC
  | .de => .inc_DE
  | .hl => .inc_HL
  | .sp => .inc_SP

/-- `DEC rr` (R232). -/
def Instr.dec16 : Reg16 → Instr
  | .bc => .dec_BC
  | .de => .dec_DE
  | .hl => .dec_HL
  | .sp => .dec_SP

/-- `JP cc,a16` (R251). -/
def Instr.jpCond : Cond → Word → Instr
  | .nz, a => .jp_NZ_a16 a
  | .z, a => .jp_Z_a16 a
  | .nc, a => .jp_NC_a16 a
  | .c, a => .jp_C_a16 a

/-- `JR cc,e8` (R254). -/
def Instr.jrCond : Cond → Byte → Instr
  | .nz, e => .jr_NZ_e8 e
  | .z, e => .jr_Z_e8 e
  | .nc, e => .jr_NC_e8 e
  | .c, e => .jr_C_e8 e

/-- `CALL cc,a16` (R256). -/
def Instr.callCond : Cond → Word → Instr
  | .nz, a => .call_NZ_a16 a
  | .z, a => .call_Z_a16 a
  | .nc, a => .call_NC_a16 a
  | .c, a => .call_C_a16 a

/-- `RET cc` (R258). -/
def Instr.retCond : Cond → Instr
  | .nz => .ret_NZ
  | .z => .ret_Z
  | .nc => .ret_NC
  | .c => .ret_C

/-- `RST n` (R260), by its field y. -/
def Instr.rst : Field3 → Instr
  | .n0 => .rst_00
  | .n1 => .rst_08
  | .n2 => .rst_10
  | .n3 => .rst_18
  | .n4 => .rst_20
  | .n5 => .rst_28
  | .n6 => .rst_30
  | .n7 => .rst_38

/-- The rotates and shifts (R281 to R296). -/
def Instr.rot : RotOp → Loc8 → Instr
  | .rlc, .reg .b => .rlc_B
  | .rlc, .reg .c => .rlc_C
  | .rlc, .reg .d => .rlc_D
  | .rlc, .reg .e => .rlc_E
  | .rlc, .reg .h => .rlc_H
  | .rlc, .reg .l => .rlc_L
  | .rlc, .mHL => .rlc_mHL
  | .rlc, .reg .a => .rlc_A
  | .rrc, .reg .b => .rrc_B
  | .rrc, .reg .c => .rrc_C
  | .rrc, .reg .d => .rrc_D
  | .rrc, .reg .e => .rrc_E
  | .rrc, .reg .h => .rrc_H
  | .rrc, .reg .l => .rrc_L
  | .rrc, .mHL => .rrc_mHL
  | .rrc, .reg .a => .rrc_A
  | .rl, .reg .b => .rl_B
  | .rl, .reg .c => .rl_C
  | .rl, .reg .d => .rl_D
  | .rl, .reg .e => .rl_E
  | .rl, .reg .h => .rl_H
  | .rl, .reg .l => .rl_L
  | .rl, .mHL => .rl_mHL
  | .rl, .reg .a => .rl_A
  | .rr, .reg .b => .rr_B
  | .rr, .reg .c => .rr_C
  | .rr, .reg .d => .rr_D
  | .rr, .reg .e => .rr_E
  | .rr, .reg .h => .rr_H
  | .rr, .reg .l => .rr_L
  | .rr, .mHL => .rr_mHL
  | .rr, .reg .a => .rr_A
  | .sla, .reg .b => .sla_B
  | .sla, .reg .c => .sla_C
  | .sla, .reg .d => .sla_D
  | .sla, .reg .e => .sla_E
  | .sla, .reg .h => .sla_H
  | .sla, .reg .l => .sla_L
  | .sla, .mHL => .sla_mHL
  | .sla, .reg .a => .sla_A
  | .sra, .reg .b => .sra_B
  | .sra, .reg .c => .sra_C
  | .sra, .reg .d => .sra_D
  | .sra, .reg .e => .sra_E
  | .sra, .reg .h => .sra_H
  | .sra, .reg .l => .sra_L
  | .sra, .mHL => .sra_mHL
  | .sra, .reg .a => .sra_A
  | .swap, .reg .b => .swap_B
  | .swap, .reg .c => .swap_C
  | .swap, .reg .d => .swap_D
  | .swap, .reg .e => .swap_E
  | .swap, .reg .h => .swap_H
  | .swap, .reg .l => .swap_L
  | .swap, .mHL => .swap_mHL
  | .swap, .reg .a => .swap_A
  | .srl, .reg .b => .srl_B
  | .srl, .reg .c => .srl_C
  | .srl, .reg .d => .srl_D
  | .srl, .reg .e => .srl_E
  | .srl, .reg .h => .srl_H
  | .srl, .reg .l => .srl_L
  | .srl, .mHL => .srl_mHL
  | .srl, .reg .a => .srl_A

/-- `BIT b,r` and `BIT b,(HL)` (R297, R298). -/
def Instr.bit : Field3 → Loc8 → Instr
  | .n0, .reg .b => .bit_0_B
  | .n0, .reg .c => .bit_0_C
  | .n0, .reg .d => .bit_0_D
  | .n0, .reg .e => .bit_0_E
  | .n0, .reg .h => .bit_0_H
  | .n0, .reg .l => .bit_0_L
  | .n0, .mHL => .bit_0_mHL
  | .n0, .reg .a => .bit_0_A
  | .n1, .reg .b => .bit_1_B
  | .n1, .reg .c => .bit_1_C
  | .n1, .reg .d => .bit_1_D
  | .n1, .reg .e => .bit_1_E
  | .n1, .reg .h => .bit_1_H
  | .n1, .reg .l => .bit_1_L
  | .n1, .mHL => .bit_1_mHL
  | .n1, .reg .a => .bit_1_A
  | .n2, .reg .b => .bit_2_B
  | .n2, .reg .c => .bit_2_C
  | .n2, .reg .d => .bit_2_D
  | .n2, .reg .e => .bit_2_E
  | .n2, .reg .h => .bit_2_H
  | .n2, .reg .l => .bit_2_L
  | .n2, .mHL => .bit_2_mHL
  | .n2, .reg .a => .bit_2_A
  | .n3, .reg .b => .bit_3_B
  | .n3, .reg .c => .bit_3_C
  | .n3, .reg .d => .bit_3_D
  | .n3, .reg .e => .bit_3_E
  | .n3, .reg .h => .bit_3_H
  | .n3, .reg .l => .bit_3_L
  | .n3, .mHL => .bit_3_mHL
  | .n3, .reg .a => .bit_3_A
  | .n4, .reg .b => .bit_4_B
  | .n4, .reg .c => .bit_4_C
  | .n4, .reg .d => .bit_4_D
  | .n4, .reg .e => .bit_4_E
  | .n4, .reg .h => .bit_4_H
  | .n4, .reg .l => .bit_4_L
  | .n4, .mHL => .bit_4_mHL
  | .n4, .reg .a => .bit_4_A
  | .n5, .reg .b => .bit_5_B
  | .n5, .reg .c => .bit_5_C
  | .n5, .reg .d => .bit_5_D
  | .n5, .reg .e => .bit_5_E
  | .n5, .reg .h => .bit_5_H
  | .n5, .reg .l => .bit_5_L
  | .n5, .mHL => .bit_5_mHL
  | .n5, .reg .a => .bit_5_A
  | .n6, .reg .b => .bit_6_B
  | .n6, .reg .c => .bit_6_C
  | .n6, .reg .d => .bit_6_D
  | .n6, .reg .e => .bit_6_E
  | .n6, .reg .h => .bit_6_H
  | .n6, .reg .l => .bit_6_L
  | .n6, .mHL => .bit_6_mHL
  | .n6, .reg .a => .bit_6_A
  | .n7, .reg .b => .bit_7_B
  | .n7, .reg .c => .bit_7_C
  | .n7, .reg .d => .bit_7_D
  | .n7, .reg .e => .bit_7_E
  | .n7, .reg .h => .bit_7_H
  | .n7, .reg .l => .bit_7_L
  | .n7, .mHL => .bit_7_mHL
  | .n7, .reg .a => .bit_7_A

/-- `RES b,r` and `RES b,(HL)` (R299, R300). -/
def Instr.res : Field3 → Loc8 → Instr
  | .n0, .reg .b => .res_0_B
  | .n0, .reg .c => .res_0_C
  | .n0, .reg .d => .res_0_D
  | .n0, .reg .e => .res_0_E
  | .n0, .reg .h => .res_0_H
  | .n0, .reg .l => .res_0_L
  | .n0, .mHL => .res_0_mHL
  | .n0, .reg .a => .res_0_A
  | .n1, .reg .b => .res_1_B
  | .n1, .reg .c => .res_1_C
  | .n1, .reg .d => .res_1_D
  | .n1, .reg .e => .res_1_E
  | .n1, .reg .h => .res_1_H
  | .n1, .reg .l => .res_1_L
  | .n1, .mHL => .res_1_mHL
  | .n1, .reg .a => .res_1_A
  | .n2, .reg .b => .res_2_B
  | .n2, .reg .c => .res_2_C
  | .n2, .reg .d => .res_2_D
  | .n2, .reg .e => .res_2_E
  | .n2, .reg .h => .res_2_H
  | .n2, .reg .l => .res_2_L
  | .n2, .mHL => .res_2_mHL
  | .n2, .reg .a => .res_2_A
  | .n3, .reg .b => .res_3_B
  | .n3, .reg .c => .res_3_C
  | .n3, .reg .d => .res_3_D
  | .n3, .reg .e => .res_3_E
  | .n3, .reg .h => .res_3_H
  | .n3, .reg .l => .res_3_L
  | .n3, .mHL => .res_3_mHL
  | .n3, .reg .a => .res_3_A
  | .n4, .reg .b => .res_4_B
  | .n4, .reg .c => .res_4_C
  | .n4, .reg .d => .res_4_D
  | .n4, .reg .e => .res_4_E
  | .n4, .reg .h => .res_4_H
  | .n4, .reg .l => .res_4_L
  | .n4, .mHL => .res_4_mHL
  | .n4, .reg .a => .res_4_A
  | .n5, .reg .b => .res_5_B
  | .n5, .reg .c => .res_5_C
  | .n5, .reg .d => .res_5_D
  | .n5, .reg .e => .res_5_E
  | .n5, .reg .h => .res_5_H
  | .n5, .reg .l => .res_5_L
  | .n5, .mHL => .res_5_mHL
  | .n5, .reg .a => .res_5_A
  | .n6, .reg .b => .res_6_B
  | .n6, .reg .c => .res_6_C
  | .n6, .reg .d => .res_6_D
  | .n6, .reg .e => .res_6_E
  | .n6, .reg .h => .res_6_H
  | .n6, .reg .l => .res_6_L
  | .n6, .mHL => .res_6_mHL
  | .n6, .reg .a => .res_6_A
  | .n7, .reg .b => .res_7_B
  | .n7, .reg .c => .res_7_C
  | .n7, .reg .d => .res_7_D
  | .n7, .reg .e => .res_7_E
  | .n7, .reg .h => .res_7_H
  | .n7, .reg .l => .res_7_L
  | .n7, .mHL => .res_7_mHL
  | .n7, .reg .a => .res_7_A

/-- `SET b,r` and `SET b,(HL)` (R301, R302). -/
def Instr.set : Field3 → Loc8 → Instr
  | .n0, .reg .b => .set_0_B
  | .n0, .reg .c => .set_0_C
  | .n0, .reg .d => .set_0_D
  | .n0, .reg .e => .set_0_E
  | .n0, .reg .h => .set_0_H
  | .n0, .reg .l => .set_0_L
  | .n0, .mHL => .set_0_mHL
  | .n0, .reg .a => .set_0_A
  | .n1, .reg .b => .set_1_B
  | .n1, .reg .c => .set_1_C
  | .n1, .reg .d => .set_1_D
  | .n1, .reg .e => .set_1_E
  | .n1, .reg .h => .set_1_H
  | .n1, .reg .l => .set_1_L
  | .n1, .mHL => .set_1_mHL
  | .n1, .reg .a => .set_1_A
  | .n2, .reg .b => .set_2_B
  | .n2, .reg .c => .set_2_C
  | .n2, .reg .d => .set_2_D
  | .n2, .reg .e => .set_2_E
  | .n2, .reg .h => .set_2_H
  | .n2, .reg .l => .set_2_L
  | .n2, .mHL => .set_2_mHL
  | .n2, .reg .a => .set_2_A
  | .n3, .reg .b => .set_3_B
  | .n3, .reg .c => .set_3_C
  | .n3, .reg .d => .set_3_D
  | .n3, .reg .e => .set_3_E
  | .n3, .reg .h => .set_3_H
  | .n3, .reg .l => .set_3_L
  | .n3, .mHL => .set_3_mHL
  | .n3, .reg .a => .set_3_A
  | .n4, .reg .b => .set_4_B
  | .n4, .reg .c => .set_4_C
  | .n4, .reg .d => .set_4_D
  | .n4, .reg .e => .set_4_E
  | .n4, .reg .h => .set_4_H
  | .n4, .reg .l => .set_4_L
  | .n4, .mHL => .set_4_mHL
  | .n4, .reg .a => .set_4_A
  | .n5, .reg .b => .set_5_B
  | .n5, .reg .c => .set_5_C
  | .n5, .reg .d => .set_5_D
  | .n5, .reg .e => .set_5_E
  | .n5, .reg .h => .set_5_H
  | .n5, .reg .l => .set_5_L
  | .n5, .mHL => .set_5_mHL
  | .n5, .reg .a => .set_5_A
  | .n6, .reg .b => .set_6_B
  | .n6, .reg .c => .set_6_C
  | .n6, .reg .d => .set_6_D
  | .n6, .reg .e => .set_6_E
  | .n6, .reg .h => .set_6_H
  | .n6, .reg .l => .set_6_L
  | .n6, .mHL => .set_6_mHL
  | .n6, .reg .a => .set_6_A
  | .n7, .reg .b => .set_7_B
  | .n7, .reg .c => .set_7_C
  | .n7, .reg .d => .set_7_D
  | .n7, .reg .e => .set_7_E
  | .n7, .reg .h => .set_7_H
  | .n7, .reg .l => .set_7_L
  | .n7, .mHL => .set_7_mHL
  | .n7, .reg .a => .set_7_A

end Sys2Proof
end

