-- ==== Sys2Proof/WellFormed.lean ====
section
/-! DEFINITION. Which terms of `Instr` are instructions. Every operand is already of the width of its field (R102), so no
operand value is ill-formed; what is refused are the eleven unrecognized bytes of R115, which have rows in the opcode table but
are no instructions of R117 (log 16). -/

namespace Sys2Proof

/-- The eleven first bytes that are unrecognized (R115). -/
def Instr.unrecognized : Instr → Bool
  | .unrecognized_D3 => true
  | .unrecognized_DB => true
  | .unrecognized_DD => true
  | .unrecognized_E3 => true
  | .unrecognized_E4 => true
  | .unrecognized_EB => true
  | .unrecognized_EC => true
  | .unrecognized_ED => true
  | .unrecognized_F4 => true
  | .unrecognized_FC => true
  | .unrecognized_FD => true
  | _ => false

/-- The term is one of the 500 instructions of R117 and R118. -/
def Instr.wellFormed (i : Instr) : Bool := !i.unrecognized

end Sys2Proof
end

