-- ==== Sys2Proof/Decode.lean ====
section
/-! DEFINITION. Decoding (R100 to R119) and, after it, encoding.

The base and CB opcode maps stand as R117 and R118 print them, row by row (the high nibble of the opcode byte selects the row,
the low nibble the column). A base entry says how many immediate bytes follow; reserved bytes have entries of their own
(R115), so nothing falls through. -/

namespace Sys2Proof

open Sys2Proof.Machine

/-- An entry of the base opcode map: an instruction of one byte, one that takes an 8-bit or a 16-bit immediate (R102, R105), or
the prefix 0xCB (R114). -/
inductive MapEntry
  | op (i : Instr)
  | imm8 (f : Byte → Instr)
  | imm16 (f : Word → Instr)
  | prefixCB

/-! ### The base opcode map (R117) -/

def baseRow0 : List MapEntry :=
  [.op .nop, .imm16 .ld_BC_n16, .op .ld_mBC_A, .op .inc_BC, .op .inc_B, .op .dec_B, .imm8 .ld_B_n8, .op .rlca,
   .imm16 .ld_ma16_SP, .op .add_HL_BC, .op .ld_A_mBC, .op .dec_BC, .op .inc_C, .op .dec_C, .imm8 .ld_C_n8, .op .rrca]

def baseRow1 : List MapEntry :=
  [.imm8 .stop, .imm16 .ld_DE_n16, .op .ld_mDE_A, .op .inc_DE, .op .inc_D, .op .dec_D, .imm8 .ld_D_n8, .op .rla,
   .imm8 .jr_e8, .op .add_HL_DE, .op .ld_A_mDE, .op .dec_DE, .op .inc_E, .op .dec_E, .imm8 .ld_E_n8, .op .rra]

def baseRow2 : List MapEntry :=
  [.imm8 .jr_NZ_e8, .imm16 .ld_HL_n16, .op .ld_mHLinc_A, .op .inc_HL, .op .inc_H, .op .dec_H, .imm8 .ld_H_n8, .op .daa,
   .imm8 .jr_Z_e8, .op .add_HL_HL, .op .ld_A_mHLinc, .op .dec_HL, .op .inc_L, .op .dec_L, .imm8 .ld_L_n8, .op .cpl]

def baseRow3 : List MapEntry :=
  [.imm8 .jr_NC_e8, .imm16 .ld_SP_n16, .op .ld_mHLdec_A, .op .inc_SP, .op .inc_mHL, .op .dec_mHL, .imm8 .ld_mHL_n8, .op .scf,
   .imm8 .jr_C_e8, .op .add_HL_SP, .op .ld_A_mHLdec, .op .dec_SP, .op .inc_A, .op .dec_A, .imm8 .ld_A_n8, .op .ccf]

def baseRow4 : List MapEntry :=
  [.op .ld_B_B, .op .ld_B_C, .op .ld_B_D, .op .ld_B_E, .op .ld_B_H, .op .ld_B_L, .op .ld_B_mHL, .op .ld_B_A,
   .op .ld_C_B, .op .ld_C_C, .op .ld_C_D, .op .ld_C_E, .op .ld_C_H, .op .ld_C_L, .op .ld_C_mHL, .op .ld_C_A]

def baseRow5 : List MapEntry :=
  [.op .ld_D_B, .op .ld_D_C, .op .ld_D_D, .op .ld_D_E, .op .ld_D_H, .op .ld_D_L, .op .ld_D_mHL, .op .ld_D_A,
   .op .ld_E_B, .op .ld_E_C, .op .ld_E_D, .op .ld_E_E, .op .ld_E_H, .op .ld_E_L, .op .ld_E_mHL, .op .ld_E_A]

def baseRow6 : List MapEntry :=
  [.op .ld_H_B, .op .ld_H_C, .op .ld_H_D, .op .ld_H_E, .op .ld_H_H, .op .ld_H_L, .op .ld_H_mHL, .op .ld_H_A,
   .op .ld_L_B, .op .ld_L_C, .op .ld_L_D, .op .ld_L_E, .op .ld_L_H, .op .ld_L_L, .op .ld_L_mHL, .op .ld_L_A]

def baseRow7 : List MapEntry :=
  [.op .ld_mHL_B, .op .ld_mHL_C, .op .ld_mHL_D, .op .ld_mHL_E, .op .ld_mHL_H, .op .ld_mHL_L, .op .halt, .op .ld_mHL_A,
   .op .ld_A_B, .op .ld_A_C, .op .ld_A_D, .op .ld_A_E, .op .ld_A_H, .op .ld_A_L, .op .ld_A_mHL, .op .ld_A_A]

def baseRow8 : List MapEntry :=
  [.op .add_A_B, .op .add_A_C, .op .add_A_D, .op .add_A_E, .op .add_A_H, .op .add_A_L, .op .add_A_mHL, .op .add_A_A,
   .op .adc_A_B, .op .adc_A_C, .op .adc_A_D, .op .adc_A_E, .op .adc_A_H, .op .adc_A_L, .op .adc_A_mHL, .op .adc_A_A]

def baseRow9 : List MapEntry :=
  [.op .sub_A_B, .op .sub_A_C, .op .sub_A_D, .op .sub_A_E, .op .sub_A_H, .op .sub_A_L, .op .sub_A_mHL, .op .sub_A_A,
   .op .sbc_A_B, .op .sbc_A_C, .op .sbc_A_D, .op .sbc_A_E, .op .sbc_A_H, .op .sbc_A_L, .op .sbc_A_mHL, .op .sbc_A_A]

def baseRowA : List MapEntry :=
  [.op .and_A_B, .op .and_A_C, .op .and_A_D, .op .and_A_E, .op .and_A_H, .op .and_A_L, .op .and_A_mHL, .op .and_A_A,
   .op .xor_A_B, .op .xor_A_C, .op .xor_A_D, .op .xor_A_E, .op .xor_A_H, .op .xor_A_L, .op .xor_A_mHL, .op .xor_A_A]

def baseRowB : List MapEntry :=
  [.op .or_A_B, .op .or_A_C, .op .or_A_D, .op .or_A_E, .op .or_A_H, .op .or_A_L, .op .or_A_mHL, .op .or_A_A,
   .op .cp_A_B, .op .cp_A_C, .op .cp_A_D, .op .cp_A_E, .op .cp_A_H, .op .cp_A_L, .op .cp_A_mHL, .op .cp_A_A]

def baseRowC : List MapEntry :=
  [.op .ret_NZ, .op .pop_BC, .imm16 .jp_NZ_a16, .imm16 .jp_a16, .imm16 .call_NZ_a16, .op .push_BC, .imm8 .add_A_n8, .op .rst_00,
   .op .ret_Z, .op .ret, .imm16 .jp_Z_a16, .prefixCB, .imm16 .call_Z_a16, .imm16 .call_a16, .imm8 .adc_A_n8, .op .rst_08]

def baseRowD : List MapEntry :=
  [.op .ret_NC, .op .pop_DE, .imm16 .jp_NC_a16, .op .unrecognized_D3, .imm16 .call_NC_a16, .op .push_DE, .imm8 .sub_A_n8, .op .rst_10,
   .op .ret_C, .op .reti, .imm16 .jp_C_a16, .op .unrecognized_DB, .imm16 .call_C_a16, .op .unrecognized_DD, .imm8 .sbc_A_n8, .op .rst_18]

def baseRowE : List MapEntry :=
  [.imm8 .ldh_ma8_A, .op .pop_HL, .op .ld_mC_A, .op .unrecognized_E3, .op .unrecognized_E4, .op .push_HL, .imm8 .and_A_n8, .op .rst_20,
   .imm8 .add_SP_e8, .op .jp_HL, .imm16 .ld_ma16_A, .op .unrecognized_EB, .op .unrecognized_EC, .op .unrecognized_ED, .imm8 .xor_A_n8, .op .rst_28]

def baseRowF : List MapEntry :=
  [.imm8 .ldh_A_ma8, .op .pop_AF, .op .ld_A_mC, .op .di, .op .unrecognized_F4, .op .push_AF, .imm8 .or_A_n8, .op .rst_30,
   .imm8 .ld_HL_SPe8, .op .ld_SP_HL, .imm16 .ld_A_ma16, .op .ei, .op .unrecognized_FC, .op .unrecognized_FD, .imm8 .cp_A_n8, .op .rst_38]

/-- The row of a high nibble in R117. -/
def baseRow : Nat → List MapEntry
  | 0 => baseRow0
  | 1 => baseRow1
  | 2 => baseRow2
  | 3 => baseRow3
  | 4 => baseRow4
  | 5 => baseRow5
  | 6 => baseRow6
  | 7 => baseRow7
  | 8 => baseRow8
  | 9 => baseRow9
  | 10 => baseRowA
  | 11 => baseRowB
  | 12 => baseRowC
  | 13 => baseRowD
  | 14 => baseRowE
  | _ => baseRowF

/-! ### The CB opcode map (R118) -/

def cbRow0 : List Instr :=
  [.rlc_B, .rlc_C, .rlc_D, .rlc_E, .rlc_H, .rlc_L, .rlc_mHL, .rlc_A,
   .rrc_B, .rrc_C, .rrc_D, .rrc_E, .rrc_H, .rrc_L, .rrc_mHL, .rrc_A]

def cbRow1 : List Instr :=
  [.rl_B, .rl_C, .rl_D, .rl_E, .rl_H, .rl_L, .rl_mHL, .rl_A,
   .rr_B, .rr_C, .rr_D, .rr_E, .rr_H, .rr_L, .rr_mHL, .rr_A]

def cbRow2 : List Instr :=
  [.sla_B, .sla_C, .sla_D, .sla_E, .sla_H, .sla_L, .sla_mHL, .sla_A,
   .sra_B, .sra_C, .sra_D, .sra_E, .sra_H, .sra_L, .sra_mHL, .sra_A]

def cbRow3 : List Instr :=
  [.swap_B, .swap_C, .swap_D, .swap_E, .swap_H, .swap_L, .swap_mHL, .swap_A,
   .srl_B, .srl_C, .srl_D, .srl_E, .srl_H, .srl_L, .srl_mHL, .srl_A]

def cbRow4 : List Instr :=
  [.bit_0_B, .bit_0_C, .bit_0_D, .bit_0_E, .bit_0_H, .bit_0_L, .bit_0_mHL, .bit_0_A,
   .bit_1_B, .bit_1_C, .bit_1_D, .bit_1_E, .bit_1_H, .bit_1_L, .bit_1_mHL, .bit_1_A]

def cbRow5 : List Instr :=
  [.bit_2_B, .bit_2_C, .bit_2_D, .bit_2_E, .bit_2_H, .bit_2_L, .bit_2_mHL, .bit_2_A,
   .bit_3_B, .bit_3_C, .bit_3_D, .bit_3_E, .bit_3_H, .bit_3_L, .bit_3_mHL, .bit_3_A]

def cbRow6 : List Instr :=
  [.bit_4_B, .bit_4_C, .bit_4_D, .bit_4_E, .bit_4_H, .bit_4_L, .bit_4_mHL, .bit_4_A,
   .bit_5_B, .bit_5_C, .bit_5_D, .bit_5_E, .bit_5_H, .bit_5_L, .bit_5_mHL, .bit_5_A]

def cbRow7 : List Instr :=
  [.bit_6_B, .bit_6_C, .bit_6_D, .bit_6_E, .bit_6_H, .bit_6_L, .bit_6_mHL, .bit_6_A,
   .bit_7_B, .bit_7_C, .bit_7_D, .bit_7_E, .bit_7_H, .bit_7_L, .bit_7_mHL, .bit_7_A]

def cbRow8 : List Instr :=
  [.res_0_B, .res_0_C, .res_0_D, .res_0_E, .res_0_H, .res_0_L, .res_0_mHL, .res_0_A,
   .res_1_B, .res_1_C, .res_1_D, .res_1_E, .res_1_H, .res_1_L, .res_1_mHL, .res_1_A]

def cbRow9 : List Instr :=
  [.res_2_B, .res_2_C, .res_2_D, .res_2_E, .res_2_H, .res_2_L, .res_2_mHL, .res_2_A,
   .res_3_B, .res_3_C, .res_3_D, .res_3_E, .res_3_H, .res_3_L, .res_3_mHL, .res_3_A]

def cbRowA : List Instr :=
  [.res_4_B, .res_4_C, .res_4_D, .res_4_E, .res_4_H, .res_4_L, .res_4_mHL, .res_4_A,
   .res_5_B, .res_5_C, .res_5_D, .res_5_E, .res_5_H, .res_5_L, .res_5_mHL, .res_5_A]

def cbRowB : List Instr :=
  [.res_6_B, .res_6_C, .res_6_D, .res_6_E, .res_6_H, .res_6_L, .res_6_mHL, .res_6_A,
   .res_7_B, .res_7_C, .res_7_D, .res_7_E, .res_7_H, .res_7_L, .res_7_mHL, .res_7_A]

def cbRowC : List Instr :=
  [.set_0_B, .set_0_C, .set_0_D, .set_0_E, .set_0_H, .set_0_L, .set_0_mHL, .set_0_A,
   .set_1_B, .set_1_C, .set_1_D, .set_1_E, .set_1_H, .set_1_L, .set_1_mHL, .set_1_A]

def cbRowD : List Instr :=
  [.set_2_B, .set_2_C, .set_2_D, .set_2_E, .set_2_H, .set_2_L, .set_2_mHL, .set_2_A,
   .set_3_B, .set_3_C, .set_3_D, .set_3_E, .set_3_H, .set_3_L, .set_3_mHL, .set_3_A]

def cbRowE : List Instr :=
  [.set_4_B, .set_4_C, .set_4_D, .set_4_E, .set_4_H, .set_4_L, .set_4_mHL, .set_4_A,
   .set_5_B, .set_5_C, .set_5_D, .set_5_E, .set_5_H, .set_5_L, .set_5_mHL, .set_5_A]

def cbRowF : List Instr :=
  [.set_6_B, .set_6_C, .set_6_D, .set_6_E, .set_6_H, .set_6_L, .set_6_mHL, .set_6_A,
   .set_7_B, .set_7_C, .set_7_D, .set_7_E, .set_7_H, .set_7_L, .set_7_mHL, .set_7_A]

/-- The row of a high nibble in R118. -/
def cbRow : Nat → List Instr
  | 0 => cbRow0
  | 1 => cbRow1
  | 2 => cbRow2
  | 3 => cbRow3
  | 4 => cbRow4
  | 5 => cbRow5
  | 6 => cbRow6
  | 7 => cbRow7
  | 8 => cbRow8
  | 9 => cbRow9
  | 10 => cbRowA
  | 11 => cbRowB
  | 12 => cbRowC
  | 13 => cbRowD
  | 14 => cbRowE
  | _ => cbRowF

theorem baseRow_length (n : Nat) : (baseRow n).length = 16 := by unfold baseRow; split <;> rfl

theorem cbRow_length (n : Nat) : (cbRow n).length = 16 := by unfold cbRow; split <;> rfl

/-- The entry of a first byte (R117, R119: total on the 256 bytes). -/
def baseEntry (b0 : Byte) : MapEntry :=
  (baseRow (b0.toNat / 16))[b0.toNat % 16]'(by rw [baseRow_length]; exact Nat.mod_lt _ (by decide))

/-- The instruction of the byte after the prefix 0xCB (R114, R118). -/
def cbEntry (b1 : Byte) : Instr :=
  (cbRow (b1.toNat / 16))[b1.toNat % 16]'(by rw [cbRow_length]; exact Nat.mod_lt _ (by decide))

/-- How many bytes an instruction with this first byte has: the first byte alone tells it (R100). -/
def instrLength (b0 : Byte) : Nat :=
  match baseEntry b0 with
  | .op _ => 1
  | .imm8 _ => 2
  | .imm16 _ => 3
  | .prefixCB => 2

/-- The instruction whose bytes begin `b0 b1 b2`; of `b1` and `b2` only those within its length are used. A 16-bit immediate
has its low byte first (R52, R105). -/
def decodeBytes (b0 b1 b2 : Byte) : Instr :=
  match baseEntry b0 with
  | .op i => i
  | .imm8 f => f b1
  | .imm16 f => f (wordOf b2 b1)
  | .prefixCB => cbEntry b1

/-- Why a list of bytes is no instruction: it is empty, or shorter than its first byte demands. -/
inductive DecodeError
  | noBytes
  | truncated (b0 : Byte)
deriving DecidableEq, Repr

/-- The decoder on any bytes: the instruction at the head of the list and the bytes after it. -/
def decode : List Byte → Except DecodeError (Instr × List Byte)
  | [] => .error .noBytes
  | b0 :: rest =>
    if instrLength b0 ≤ rest.length + 1 then
      .ok (decodeBytes b0 (rest.getD 0 0#8) (rest.getD 1 0#8), rest.drop (instrLength b0 - 1))
    else .error (.truncated b0)

/-! ### Encoding -/

/-- The bytes of an instruction in address order: opcode bytes, then the immediate, low byte first (R102). -/
def encode : Instr → List Byte
  | .nop => [0x00#8]
  | .ld_BC_n16 x => [0x01#8, loByte x, hiByte x]
  | .ld_mBC_A => [0x02#8]
  | .inc_BC => [0x03#8]
  | .inc_B => [0x04#8]
  | .dec_B => [0x05#8]
  | .ld_B_n8 x => [0x06#8, x]
  | .rlca => [0x07#8]
  | .ld_ma16_SP x => [0x08#8, loByte x, hiByte x]
  | .add_HL_BC => [0x09#8]
  | .ld_A_mBC => [0x0A#8]
  | .dec_BC => [0x0B#8]
  | .inc_C => [0x0C#8]
  | .dec_C => [0x0D#8]
  | .ld_C_n8 x => [0x0E#8, x]
  | .rrca => [0x0F#8]
  | .stop x => [0x10#8, x]
  | .ld_DE_n16 x => [0x11#8, loByte x, hiByte x]
  | .ld_mDE_A => [0x12#8]
  | .inc_DE => [0x13#8]
  | .inc_D => [0x14#8]
  | .dec_D => [0x15#8]
  | .ld_D_n8 x => [0x16#8, x]
  | .rla => [0x17#8]
  | .jr_e8 x => [0x18#8, x]
  | .add_HL_DE => [0x19#8]
  | .ld_A_mDE => [0x1A#8]
  | .dec_DE => [0x1B#8]
  | .inc_E => [0x1C#8]
  | .dec_E => [0x1D#8]
  | .ld_E_n8 x => [0x1E#8, x]
  | .rra => [0x1F#8]
  | .jr_NZ_e8 x => [0x20#8, x]
  | .ld_HL_n16 x => [0x21#8, loByte x, hiByte x]
  | .ld_mHLinc_A => [0x22#8]
  | .inc_HL => [0x23#8]
  | .inc_H => [0x24#8]
  | .dec_H => [0x25#8]
  | .ld_H_n8 x => [0x26#8, x]
  | .daa => [0x27#8]
  | .jr_Z_e8 x => [0x28#8, x]
  | .add_HL_HL => [0x29#8]
  | .ld_A_mHLinc => [0x2A#8]
  | .dec_HL => [0x2B#8]
  | .inc_L => [0x2C#8]
  | .dec_L => [0x2D#8]
  | .ld_L_n8 x => [0x2E#8, x]
  | .cpl => [0x2F#8]
  | .jr_NC_e8 x => [0x30#8, x]
  | .ld_SP_n16 x => [0x31#8, loByte x, hiByte x]
  | .ld_mHLdec_A => [0x32#8]
  | .inc_SP => [0x33#8]
  | .inc_mHL => [0x34#8]
  | .dec_mHL => [0x35#8]
  | .ld_mHL_n8 x => [0x36#8, x]
  | .scf => [0x37#8]
  | .jr_C_e8 x => [0x38#8, x]
  | .add_HL_SP => [0x39#8]
  | .ld_A_mHLdec => [0x3A#8]
  | .dec_SP => [0x3B#8]
  | .inc_A => [0x3C#8]
  | .dec_A => [0x3D#8]
  | .ld_A_n8 x => [0x3E#8, x]
  | .ccf => [0x3F#8]
  | .ld_B_B => [0x40#8]
  | .ld_B_C => [0x41#8]
  | .ld_B_D => [0x42#8]
  | .ld_B_E => [0x43#8]
  | .ld_B_H => [0x44#8]
  | .ld_B_L => [0x45#8]
  | .ld_B_mHL => [0x46#8]
  | .ld_B_A => [0x47#8]
  | .ld_C_B => [0x48#8]
  | .ld_C_C => [0x49#8]
  | .ld_C_D => [0x4A#8]
  | .ld_C_E => [0x4B#8]
  | .ld_C_H => [0x4C#8]
  | .ld_C_L => [0x4D#8]
  | .ld_C_mHL => [0x4E#8]
  | .ld_C_A => [0x4F#8]
  | .ld_D_B => [0x50#8]
  | .ld_D_C => [0x51#8]
  | .ld_D_D => [0x52#8]
  | .ld_D_E => [0x53#8]
  | .ld_D_H => [0x54#8]
  | .ld_D_L => [0x55#8]
  | .ld_D_mHL => [0x56#8]
  | .ld_D_A => [0x57#8]
  | .ld_E_B => [0x58#8]
  | .ld_E_C => [0x59#8]
  | .ld_E_D => [0x5A#8]
  | .ld_E_E => [0x5B#8]
  | .ld_E_H => [0x5C#8]
  | .ld_E_L => [0x5D#8]
  | .ld_E_mHL => [0x5E#8]
  | .ld_E_A => [0x5F#8]
  | .ld_H_B => [0x60#8]
  | .ld_H_C => [0x61#8]
  | .ld_H_D => [0x62#8]
  | .ld_H_E => [0x63#8]
  | .ld_H_H => [0x64#8]
  | .ld_H_L => [0x65#8]
  | .ld_H_mHL => [0x66#8]
  | .ld_H_A => [0x67#8]
  | .ld_L_B => [0x68#8]
  | .ld_L_C => [0x69#8]
  | .ld_L_D => [0x6A#8]
  | .ld_L_E => [0x6B#8]
  | .ld_L_H => [0x6C#8]
  | .ld_L_L => [0x6D#8]
  | .ld_L_mHL => [0x6E#8]
  | .ld_L_A => [0x6F#8]
  | .ld_mHL_B => [0x70#8]
  | .ld_mHL_C => [0x71#8]
  | .ld_mHL_D => [0x72#8]
  | .ld_mHL_E => [0x73#8]
  | .ld_mHL_H => [0x74#8]
  | .ld_mHL_L => [0x75#8]
  | .halt => [0x76#8]
  | .ld_mHL_A => [0x77#8]
  | .ld_A_B => [0x78#8]
  | .ld_A_C => [0x79#8]
  | .ld_A_D => [0x7A#8]
  | .ld_A_E => [0x7B#8]
  | .ld_A_H => [0x7C#8]
  | .ld_A_L => [0x7D#8]
  | .ld_A_mHL => [0x7E#8]
  | .ld_A_A => [0x7F#8]
  | .add_A_B => [0x80#8]
  | .add_A_C => [0x81#8]
  | .add_A_D => [0x82#8]
  | .add_A_E => [0x83#8]
  | .add_A_H => [0x84#8]
  | .add_A_L => [0x85#8]
  | .add_A_mHL => [0x86#8]
  | .add_A_A => [0x87#8]
  | .adc_A_B => [0x88#8]
  | .adc_A_C => [0x89#8]
  | .adc_A_D => [0x8A#8]
  | .adc_A_E => [0x8B#8]
  | .adc_A_H => [0x8C#8]
  | .adc_A_L => [0x8D#8]
  | .adc_A_mHL => [0x8E#8]
  | .adc_A_A => [0x8F#8]
  | .sub_A_B => [0x90#8]
  | .sub_A_C => [0x91#8]
  | .sub_A_D => [0x92#8]
  | .sub_A_E => [0x93#8]
  | .sub_A_H => [0x94#8]
  | .sub_A_L => [0x95#8]
  | .sub_A_mHL => [0x96#8]
  | .sub_A_A => [0x97#8]
  | .sbc_A_B => [0x98#8]
  | .sbc_A_C => [0x99#8]
  | .sbc_A_D => [0x9A#8]
  | .sbc_A_E => [0x9B#8]
  | .sbc_A_H => [0x9C#8]
  | .sbc_A_L => [0x9D#8]
  | .sbc_A_mHL => [0x9E#8]
  | .sbc_A_A => [0x9F#8]
  | .and_A_B => [0xA0#8]
  | .and_A_C => [0xA1#8]
  | .and_A_D => [0xA2#8]
  | .and_A_E => [0xA3#8]
  | .and_A_H => [0xA4#8]
  | .and_A_L => [0xA5#8]
  | .and_A_mHL => [0xA6#8]
  | .and_A_A => [0xA7#8]
  | .xor_A_B => [0xA8#8]
  | .xor_A_C => [0xA9#8]
  | .xor_A_D => [0xAA#8]
  | .xor_A_E => [0xAB#8]
  | .xor_A_H => [0xAC#8]
  | .xor_A_L => [0xAD#8]
  | .xor_A_mHL => [0xAE#8]
  | .xor_A_A => [0xAF#8]
  | .or_A_B => [0xB0#8]
  | .or_A_C => [0xB1#8]
  | .or_A_D => [0xB2#8]
  | .or_A_E => [0xB3#8]
  | .or_A_H => [0xB4#8]
  | .or_A_L => [0xB5#8]
  | .or_A_mHL => [0xB6#8]
  | .or_A_A => [0xB7#8]
  | .cp_A_B => [0xB8#8]
  | .cp_A_C => [0xB9#8]
  | .cp_A_D => [0xBA#8]
  | .cp_A_E => [0xBB#8]
  | .cp_A_H => [0xBC#8]
  | .cp_A_L => [0xBD#8]
  | .cp_A_mHL => [0xBE#8]
  | .cp_A_A => [0xBF#8]
  | .ret_NZ => [0xC0#8]
  | .pop_BC => [0xC1#8]
  | .jp_NZ_a16 x => [0xC2#8, loByte x, hiByte x]
  | .jp_a16 x => [0xC3#8, loByte x, hiByte x]
  | .call_NZ_a16 x => [0xC4#8, loByte x, hiByte x]
  | .push_BC => [0xC5#8]
  | .add_A_n8 x => [0xC6#8, x]
  | .rst_00 => [0xC7#8]
  | .ret_Z => [0xC8#8]
  | .ret => [0xC9#8]
  | .jp_Z_a16 x => [0xCA#8, loByte x, hiByte x]
  | .call_Z_a16 x => [0xCC#8, loByte x, hiByte x]
  | .call_a16 x => [0xCD#8, loByte x, hiByte x]
  | .adc_A_n8 x => [0xCE#8, x]
  | .rst_08 => [0xCF#8]
  | .ret_NC => [0xD0#8]
  | .pop_DE => [0xD1#8]
  | .jp_NC_a16 x => [0xD2#8, loByte x, hiByte x]
  | .unrecognized_D3 => [0xD3#8]
  | .call_NC_a16 x => [0xD4#8, loByte x, hiByte x]
  | .push_DE => [0xD5#8]
  | .sub_A_n8 x => [0xD6#8, x]
  | .rst_10 => [0xD7#8]
  | .ret_C => [0xD8#8]
  | .reti => [0xD9#8]
  | .jp_C_a16 x => [0xDA#8, loByte x, hiByte x]
  | .unrecognized_DB => [0xDB#8]
  | .call_C_a16 x => [0xDC#8, loByte x, hiByte x]
  | .unrecognized_DD => [0xDD#8]
  | .sbc_A_n8 x => [0xDE#8, x]
  | .rst_18 => [0xDF#8]
  | .ldh_ma8_A x => [0xE0#8, x]
  | .pop_HL => [0xE1#8]
  | .ld_mC_A => [0xE2#8]
  | .unrecognized_E3 => [0xE3#8]
  | .unrecognized_E4 => [0xE4#8]
  | .push_HL => [0xE5#8]
  | .and_A_n8 x => [0xE6#8, x]
  | .rst_20 => [0xE7#8]
  | .add_SP_e8 x => [0xE8#8, x]
  | .jp_HL => [0xE9#8]
  | .ld_ma16_A x => [0xEA#8, loByte x, hiByte x]
  | .unrecognized_EB => [0xEB#8]
  | .unrecognized_EC => [0xEC#8]
  | .unrecognized_ED => [0xED#8]
  | .xor_A_n8 x => [0xEE#8, x]
  | .rst_28 => [0xEF#8]
  | .ldh_A_ma8 x => [0xF0#8, x]
  | .pop_AF => [0xF1#8]
  | .ld_A_mC => [0xF2#8]
  | .di => [0xF3#8]
  | .unrecognized_F4 => [0xF4#8]
  | .push_AF => [0xF5#8]
  | .or_A_n8 x => [0xF6#8, x]
  | .rst_30 => [0xF7#8]
  | .ld_HL_SPe8 x => [0xF8#8, x]
  | .ld_SP_HL => [0xF9#8]
  | .ld_A_ma16 x => [0xFA#8, loByte x, hiByte x]
  | .ei => [0xFB#8]
  | .unrecognized_FC => [0xFC#8]
  | .unrecognized_FD => [0xFD#8]
  | .cp_A_n8 x => [0xFE#8, x]
  | .rst_38 => [0xFF#8]
  | .rlc_B => [0xCB#8, 0x00#8]
  | .rlc_C => [0xCB#8, 0x01#8]
  | .rlc_D => [0xCB#8, 0x02#8]
  | .rlc_E => [0xCB#8, 0x03#8]
  | .rlc_H => [0xCB#8, 0x04#8]
  | .rlc_L => [0xCB#8, 0x05#8]
  | .rlc_mHL => [0xCB#8, 0x06#8]
  | .rlc_A => [0xCB#8, 0x07#8]
  | .rrc_B => [0xCB#8, 0x08#8]
  | .rrc_C => [0xCB#8, 0x09#8]
  | .rrc_D => [0xCB#8, 0x0A#8]
  | .rrc_E => [0xCB#8, 0x0B#8]
  | .rrc_H => [0xCB#8, 0x0C#8]
  | .rrc_L => [0xCB#8, 0x0D#8]
  | .rrc_mHL => [0xCB#8, 0x0E#8]
  | .rrc_A => [0xCB#8, 0x0F#8]
  | .rl_B => [0xCB#8, 0x10#8]
  | .rl_C => [0xCB#8, 0x11#8]
  | .rl_D => [0xCB#8, 0x12#8]
  | .rl_E => [0xCB#8, 0x13#8]
  | .rl_H => [0xCB#8, 0x14#8]
  | .rl_L => [0xCB#8, 0x15#8]
  | .rl_mHL => [0xCB#8, 0x16#8]
  | .rl_A => [0xCB#8, 0x17#8]
  | .rr_B => [0xCB#8, 0x18#8]
  | .rr_C => [0xCB#8, 0x19#8]
  | .rr_D => [0xCB#8, 0x1A#8]
  | .rr_E => [0xCB#8, 0x1B#8]
  | .rr_H => [0xCB#8, 0x1C#8]
  | .rr_L => [0xCB#8, 0x1D#8]
  | .rr_mHL => [0xCB#8, 0x1E#8]
  | .rr_A => [0xCB#8, 0x1F#8]
  | .sla_B => [0xCB#8, 0x20#8]
  | .sla_C => [0xCB#8, 0x21#8]
  | .sla_D => [0xCB#8, 0x22#8]
  | .sla_E => [0xCB#8, 0x23#8]
  | .sla_H => [0xCB#8, 0x24#8]
  | .sla_L => [0xCB#8, 0x25#8]
  | .sla_mHL => [0xCB#8, 0x26#8]
  | .sla_A => [0xCB#8, 0x27#8]
  | .sra_B => [0xCB#8, 0x28#8]
  | .sra_C => [0xCB#8, 0x29#8]
  | .sra_D => [0xCB#8, 0x2A#8]
  | .sra_E => [0xCB#8, 0x2B#8]
  | .sra_H => [0xCB#8, 0x2C#8]
  | .sra_L => [0xCB#8, 0x2D#8]
  | .sra_mHL => [0xCB#8, 0x2E#8]
  | .sra_A => [0xCB#8, 0x2F#8]
  | .swap_B => [0xCB#8, 0x30#8]
  | .swap_C => [0xCB#8, 0x31#8]
  | .swap_D => [0xCB#8, 0x32#8]
  | .swap_E => [0xCB#8, 0x33#8]
  | .swap_H => [0xCB#8, 0x34#8]
  | .swap_L => [0xCB#8, 0x35#8]
  | .swap_mHL => [0xCB#8, 0x36#8]
  | .swap_A => [0xCB#8, 0x37#8]
  | .srl_B => [0xCB#8, 0x38#8]
  | .srl_C => [0xCB#8, 0x39#8]
  | .srl_D => [0xCB#8, 0x3A#8]
  | .srl_E => [0xCB#8, 0x3B#8]
  | .srl_H => [0xCB#8, 0x3C#8]
  | .srl_L => [0xCB#8, 0x3D#8]
  | .srl_mHL => [0xCB#8, 0x3E#8]
  | .srl_A => [0xCB#8, 0x3F#8]
  | .bit_0_B => [0xCB#8, 0x40#8]
  | .bit_0_C => [0xCB#8, 0x41#8]
  | .bit_0_D => [0xCB#8, 0x42#8]
  | .bit_0_E => [0xCB#8, 0x43#8]
  | .bit_0_H => [0xCB#8, 0x44#8]
  | .bit_0_L => [0xCB#8, 0x45#8]
  | .bit_0_mHL => [0xCB#8, 0x46#8]
  | .bit_0_A => [0xCB#8, 0x47#8]
  | .bit_1_B => [0xCB#8, 0x48#8]
  | .bit_1_C => [0xCB#8, 0x49#8]
  | .bit_1_D => [0xCB#8, 0x4A#8]
  | .bit_1_E => [0xCB#8, 0x4B#8]
  | .bit_1_H => [0xCB#8, 0x4C#8]
  | .bit_1_L => [0xCB#8, 0x4D#8]
  | .bit_1_mHL => [0xCB#8, 0x4E#8]
  | .bit_1_A => [0xCB#8, 0x4F#8]
  | .bit_2_B => [0xCB#8, 0x50#8]
  | .bit_2_C => [0xCB#8, 0x51#8]
  | .bit_2_D => [0xCB#8, 0x52#8]
  | .bit_2_E => [0xCB#8, 0x53#8]
  | .bit_2_H => [0xCB#8, 0x54#8]
  | .bit_2_L => [0xCB#8, 0x55#8]
  | .bit_2_mHL => [0xCB#8, 0x56#8]
  | .bit_2_A => [0xCB#8, 0x57#8]
  | .bit_3_B => [0xCB#8, 0x58#8]
  | .bit_3_C => [0xCB#8, 0x59#8]
  | .bit_3_D => [0xCB#8, 0x5A#8]
  | .bit_3_E => [0xCB#8, 0x5B#8]
  | .bit_3_H => [0xCB#8, 0x5C#8]
  | .bit_3_L => [0xCB#8, 0x5D#8]
  | .bit_3_mHL => [0xCB#8, 0x5E#8]
  | .bit_3_A => [0xCB#8, 0x5F#8]
  | .bit_4_B => [0xCB#8, 0x60#8]
  | .bit_4_C => [0xCB#8, 0x61#8]
  | .bit_4_D => [0xCB#8, 0x62#8]
  | .bit_4_E => [0xCB#8, 0x63#8]
  | .bit_4_H => [0xCB#8, 0x64#8]
  | .bit_4_L => [0xCB#8, 0x65#8]
  | .bit_4_mHL => [0xCB#8, 0x66#8]
  | .bit_4_A => [0xCB#8, 0x67#8]
  | .bit_5_B => [0xCB#8, 0x68#8]
  | .bit_5_C => [0xCB#8, 0x69#8]
  | .bit_5_D => [0xCB#8, 0x6A#8]
  | .bit_5_E => [0xCB#8, 0x6B#8]
  | .bit_5_H => [0xCB#8, 0x6C#8]
  | .bit_5_L => [0xCB#8, 0x6D#8]
  | .bit_5_mHL => [0xCB#8, 0x6E#8]
  | .bit_5_A => [0xCB#8, 0x6F#8]
  | .bit_6_B => [0xCB#8, 0x70#8]
  | .bit_6_C => [0xCB#8, 0x71#8]
  | .bit_6_D => [0xCB#8, 0x72#8]
  | .bit_6_E => [0xCB#8, 0x73#8]
  | .bit_6_H => [0xCB#8, 0x74#8]
  | .bit_6_L => [0xCB#8, 0x75#8]
  | .bit_6_mHL => [0xCB#8, 0x76#8]
  | .bit_6_A => [0xCB#8, 0x77#8]
  | .bit_7_B => [0xCB#8, 0x78#8]
  | .bit_7_C => [0xCB#8, 0x79#8]
  | .bit_7_D => [0xCB#8, 0x7A#8]
  | .bit_7_E => [0xCB#8, 0x7B#8]
  | .bit_7_H => [0xCB#8, 0x7C#8]
  | .bit_7_L => [0xCB#8, 0x7D#8]
  | .bit_7_mHL => [0xCB#8, 0x7E#8]
  | .bit_7_A => [0xCB#8, 0x7F#8]
  | .res_0_B => [0xCB#8, 0x80#8]
  | .res_0_C => [0xCB#8, 0x81#8]
  | .res_0_D => [0xCB#8, 0x82#8]
  | .res_0_E => [0xCB#8, 0x83#8]
  | .res_0_H => [0xCB#8, 0x84#8]
  | .res_0_L => [0xCB#8, 0x85#8]
  | .res_0_mHL => [0xCB#8, 0x86#8]
  | .res_0_A => [0xCB#8, 0x87#8]
  | .res_1_B => [0xCB#8, 0x88#8]
  | .res_1_C => [0xCB#8, 0x89#8]
  | .res_1_D => [0xCB#8, 0x8A#8]
  | .res_1_E => [0xCB#8, 0x8B#8]
  | .res_1_H => [0xCB#8, 0x8C#8]
  | .res_1_L => [0xCB#8, 0x8D#8]
  | .res_1_mHL => [0xCB#8, 0x8E#8]
  | .res_1_A => [0xCB#8, 0x8F#8]
  | .res_2_B => [0xCB#8, 0x90#8]
  | .res_2_C => [0xCB#8, 0x91#8]
  | .res_2_D => [0xCB#8, 0x92#8]
  | .res_2_E => [0xCB#8, 0x93#8]
  | .res_2_H => [0xCB#8, 0x94#8]
  | .res_2_L => [0xCB#8, 0x95#8]
  | .res_2_mHL => [0xCB#8, 0x96#8]
  | .res_2_A => [0xCB#8, 0x97#8]
  | .res_3_B => [0xCB#8, 0x98#8]
  | .res_3_C => [0xCB#8, 0x99#8]
  | .res_3_D => [0xCB#8, 0x9A#8]
  | .res_3_E => [0xCB#8, 0x9B#8]
  | .res_3_H => [0xCB#8, 0x9C#8]
  | .res_3_L => [0xCB#8, 0x9D#8]
  | .res_3_mHL => [0xCB#8, 0x9E#8]
  | .res_3_A => [0xCB#8, 0x9F#8]
  | .res_4_B => [0xCB#8, 0xA0#8]
  | .res_4_C => [0xCB#8, 0xA1#8]
  | .res_4_D => [0xCB#8, 0xA2#8]
  | .res_4_E => [0xCB#8, 0xA3#8]
  | .res_4_H => [0xCB#8, 0xA4#8]
  | .res_4_L => [0xCB#8, 0xA5#8]
  | .res_4_mHL => [0xCB#8, 0xA6#8]
  | .res_4_A => [0xCB#8, 0xA7#8]
  | .res_5_B => [0xCB#8, 0xA8#8]
  | .res_5_C => [0xCB#8, 0xA9#8]
  | .res_5_D => [0xCB#8, 0xAA#8]
  | .res_5_E => [0xCB#8, 0xAB#8]
  | .res_5_H => [0xCB#8, 0xAC#8]
  | .res_5_L => [0xCB#8, 0xAD#8]
  | .res_5_mHL => [0xCB#8, 0xAE#8]
  | .res_5_A => [0xCB#8, 0xAF#8]
  | .res_6_B => [0xCB#8, 0xB0#8]
  | .res_6_C => [0xCB#8, 0xB1#8]
  | .res_6_D => [0xCB#8, 0xB2#8]
  | .res_6_E => [0xCB#8, 0xB3#8]
  | .res_6_H => [0xCB#8, 0xB4#8]
  | .res_6_L => [0xCB#8, 0xB5#8]
  | .res_6_mHL => [0xCB#8, 0xB6#8]
  | .res_6_A => [0xCB#8, 0xB7#8]
  | .res_7_B => [0xCB#8, 0xB8#8]
  | .res_7_C => [0xCB#8, 0xB9#8]
  | .res_7_D => [0xCB#8, 0xBA#8]
  | .res_7_E => [0xCB#8, 0xBB#8]
  | .res_7_H => [0xCB#8, 0xBC#8]
  | .res_7_L => [0xCB#8, 0xBD#8]
  | .res_7_mHL => [0xCB#8, 0xBE#8]
  | .res_7_A => [0xCB#8, 0xBF#8]
  | .set_0_B => [0xCB#8, 0xC0#8]
  | .set_0_C => [0xCB#8, 0xC1#8]
  | .set_0_D => [0xCB#8, 0xC2#8]
  | .set_0_E => [0xCB#8, 0xC3#8]
  | .set_0_H => [0xCB#8, 0xC4#8]
  | .set_0_L => [0xCB#8, 0xC5#8]
  | .set_0_mHL => [0xCB#8, 0xC6#8]
  | .set_0_A => [0xCB#8, 0xC7#8]
  | .set_1_B => [0xCB#8, 0xC8#8]
  | .set_1_C => [0xCB#8, 0xC9#8]
  | .set_1_D => [0xCB#8, 0xCA#8]
  | .set_1_E => [0xCB#8, 0xCB#8]
  | .set_1_H => [0xCB#8, 0xCC#8]
  | .set_1_L => [0xCB#8, 0xCD#8]
  | .set_1_mHL => [0xCB#8, 0xCE#8]
  | .set_1_A => [0xCB#8, 0xCF#8]
  | .set_2_B => [0xCB#8, 0xD0#8]
  | .set_2_C => [0xCB#8, 0xD1#8]
  | .set_2_D => [0xCB#8, 0xD2#8]
  | .set_2_E => [0xCB#8, 0xD3#8]
  | .set_2_H => [0xCB#8, 0xD4#8]
  | .set_2_L => [0xCB#8, 0xD5#8]
  | .set_2_mHL => [0xCB#8, 0xD6#8]
  | .set_2_A => [0xCB#8, 0xD7#8]
  | .set_3_B => [0xCB#8, 0xD8#8]
  | .set_3_C => [0xCB#8, 0xD9#8]
  | .set_3_D => [0xCB#8, 0xDA#8]
  | .set_3_E => [0xCB#8, 0xDB#8]
  | .set_3_H => [0xCB#8, 0xDC#8]
  | .set_3_L => [0xCB#8, 0xDD#8]
  | .set_3_mHL => [0xCB#8, 0xDE#8]
  | .set_3_A => [0xCB#8, 0xDF#8]
  | .set_4_B => [0xCB#8, 0xE0#8]
  | .set_4_C => [0xCB#8, 0xE1#8]
  | .set_4_D => [0xCB#8, 0xE2#8]
  | .set_4_E => [0xCB#8, 0xE3#8]
  | .set_4_H => [0xCB#8, 0xE4#8]
  | .set_4_L => [0xCB#8, 0xE5#8]
  | .set_4_mHL => [0xCB#8, 0xE6#8]
  | .set_4_A => [0xCB#8, 0xE7#8]
  | .set_5_B => [0xCB#8, 0xE8#8]
  | .set_5_C => [0xCB#8, 0xE9#8]
  | .set_5_D => [0xCB#8, 0xEA#8]
  | .set_5_E => [0xCB#8, 0xEB#8]
  | .set_5_H => [0xCB#8, 0xEC#8]
  | .set_5_L => [0xCB#8, 0xED#8]
  | .set_5_mHL => [0xCB#8, 0xEE#8]
  | .set_5_A => [0xCB#8, 0xEF#8]
  | .set_6_B => [0xCB#8, 0xF0#8]
  | .set_6_C => [0xCB#8, 0xF1#8]
  | .set_6_D => [0xCB#8, 0xF2#8]
  | .set_6_E => [0xCB#8, 0xF3#8]
  | .set_6_H => [0xCB#8, 0xF4#8]
  | .set_6_L => [0xCB#8, 0xF5#8]
  | .set_6_mHL => [0xCB#8, 0xF6#8]
  | .set_6_A => [0xCB#8, 0xF7#8]
  | .set_7_B => [0xCB#8, 0xF8#8]
  | .set_7_C => [0xCB#8, 0xF9#8]
  | .set_7_D => [0xCB#8, 0xFA#8]
  | .set_7_E => [0xCB#8, 0xFB#8]
  | .set_7_H => [0xCB#8, 0xFC#8]
  | .set_7_L => [0xCB#8, 0xFD#8]
  | .set_7_mHL => [0xCB#8, 0xFE#8]
  | .set_7_A => [0xCB#8, 0xFF#8]

/-! ### The indices of the operand tables -/

/-- The index of a register in r8 (R107). -/
def Reg8.index : Reg8 → BitVec 3
  | .b => 0 | .c => 1 | .d => 2 | .e => 3 | .h => 4 | .l => 5 | .a => 7

/-- The index of an operand in r8 (R107): (HL) is 6. -/
def Loc8.index : Loc8 → BitVec 3
  | .reg r => r.index
  | .mHL => 6

/-- The index of a pair in r16 (R108). -/
def Reg16.index : Reg16 → BitVec 2
  | .bc => 0 | .de => 1 | .hl => 2 | .sp => 3

/-- The index of a pair in r16stk (R108). -/
def Reg16Stk.index : Reg16Stk → BitVec 2
  | .bc => 0 | .de => 1 | .hl => 2 | .af => 3

/-- The index of a condition (R110). -/
def Cond.index : Cond → BitVec 2
  | .nz => 0 | .z => 1 | .nc => 2 | .c => 3

/-- The index of an accumulator operation (R112). -/
def AluOp.index : AluOp → BitVec 3
  | .add => 0 | .adc => 1 | .sub => 2 | .sbc => 3 | .and => 4 | .xor => 5 | .or => 6 | .cp => 7

/-- The index of a rotate or shift (R114). -/
def RotOp.index : RotOp → BitVec 3
  | .rlc => 0 | .rrc => 1 | .rl => 2 | .rr => 3 | .sla => 4 | .sra => 5 | .swap => 6 | .srl => 7

/-- The value of a 3-bit field that is a number (R104). -/
def Field3.index : Field3 → BitVec 3
  | .n0 => 0 | .n1 => 1 | .n2 => 2 | .n3 => 3 | .n4 => 4 | .n5 => 5 | .n6 => 6 | .n7 => 7

/-! ### Words as the opcode table numbers them -/

/-- The first three bytes of the instruction whose `nbits` low bits are `w` and whose other bits are 0. A row of 16 bits is a
CB row, and the table writes it 0xCB * 256 + b1, the prefix in bits 15:8 (log 7); any other word has its first byte in bits
7:0, the next in 15:8, the next in 23:16. -/
def tableBytes (nbits w : Nat) : Byte × Byte × Byte :=
  let v := w % 2 ^ nbits
  if nbits = 16 ∧ v / 256 = 0xCB then (0xCB#8, BitVec.ofNat 8 v, 0#8)
  else (BitVec.ofNat 8 v, BitVec.ofNat 8 (v / 256), BitVec.ofNat 8 (v / 65536))

/-- What the decoder reads from a word of the opcode table. -/
def decodeTableWord (nbits w : Nat) : Option Instr :=
  match tableBytes nbits w with
  | (b0, b1, b2) =>
    match decode [b0, b1, b2] with
    | .ok (i, _) => some i
    | .error _ => none

end Sys2Proof
end

