-- ==== Sys2Proof/Config.lean ====
section
/-! DEFINITION. The implementation parameters of R8: what is fixed for the machine. CART_IMAGE is the argument of
`State.powerOn` (Machine/Ports.lean), and RENDER's answers stand in State (log 4). -/

namespace Sys2Proof

/-- Bytes of the window WIN, the 64 KB flat addressable space (R39). -/
def Config.winSize : Nat := 0x10000

/-- CART_SIZE, the cartridge buffer: 2 MB (R8, D5). -/
def Config.cartSize : Nat := 0x200000

/-- ERAM_SIZE, the external RAM buffer: 32 KB (R8). -/
def Config.eramSize : Nat := 0x8000

/-- FRAME_CYCLES (R8, D30): the frame's cycle budget, which the spec leaves OPEN. It has no body, so nothing can be proved
of its value; `runFrameWith` takes the budget as an argument. -/
opaque Config.frameCycles : Nat

end Sys2Proof
end

