-- ==== Sys2Proof/Machine/State.lean ====
section
/-! DEFINITION. The machine's state (R43), the ways a step can stop, and the state after power-on (R370 to R379). -/

namespace Sys2Proof.Machine

/-- The contents of one storage array: address and byte pairs, addresses rising, no entry equal to what an unlisted address
reads as (`Memory.wf`, Machine/Ops.lean). -/
abbrev Memory := List Host.Cell

/-- The three storage arrays of R39: the 64 KB window, the external RAM buffer and the cartridge buffer. -/
inductive Storage
  | win
  | eram
  | cart
deriving DecidableEq, Repr

/-- The cartridge's bank-switching controller (R3, R40). -/
inductive Mbc
  | noController
  | mbc1
  | mbc2
deriving DecidableEq, Repr

/-- The five interrupt sources (R341), in the order of their bits in IF and IE. -/
inductive IrqSource
  | vblank
  | lcdStat
  | timer
  | serial
  | joypad
deriving DecidableEq, Repr

/-- What `DecodeFault(pc, byte)` records: the address the byte was fetched from, and the byte (R38, R331). -/
structure FaultRecord where
  pc : Word
  byte : Byte
deriving DecidableEq, Repr

/-- One answer of RENDER: which of the interrupt sources 0 and 1 it requests (R350). -/
structure RenderAnswer where
  vblank : Bool
  lcdStat : Bool
deriving DecidableEq, Repr

/-- The complete state record of R43, and after it the model's two own fields (log 3, log 4). -/
structure State where
  a : Byte
  /-- The flag byte: Z, N, H, C in bits 7 to 4; bits 3:0 are 0 (R24, R26; log 9). -/
  f : Byte
  b : Byte
  c : Byte
  d : Byte
  e : Byte
  h : Byte
  l : Byte
  sp : Word
  pc : Word
  /-- The interrupt master enable (R30). -/
  ime : Bool
  /-- An `EI` whose effect is deferred (R31). -/
  eiPending : Bool
  /-- A `DI` whose effect is deferred (R31). -/
  diPending : Bool
  /-- `HALT` has executed and nothing has woken the core (R32). -/
  halted : Bool
  /-- The divider; DIV is its upper byte (R33). -/
  divCounter : Word
  /-- Cycles to the next TIMA increment (R36, D39). -/
  timerCounter : Int
  /-- Bit k is 0 while key k is held (R37). -/
  joyLatch : Byte
  /-- The controller variant, fixed at power-on (R40, R58). -/
  mbc : Mbc
  /-- The ROM bank seen at 0x4000-0x7FFF (R40). -/
  romBank : Byte
  /-- The external RAM bank seen at 0xA000-0xBFFF (R40). -/
  ramBank : BitVec 2
  /-- The RAM-enable latch (R40). -/
  ramEnabled : Bool
  /-- The MBC1 mode flag: true is ROM-banking (R40). -/
  romBankingMode : Bool
  /-- WIN (R39): IF, IE, TIMA, TMA and TAC are bytes of it. -/
  win : Memory
  /-- ERAM (R39). -/
  eram : Memory
  /-- CART (R39): no step writes it. -/
  cart : Memory
  /-- The sticky fault (R38). -/
  fault : Option FaultRecord
  /-- Cycles accumulated in the current frame call (R41). -/
  frameCycles : Nat
  /-- The model's own: the cycle count that the last completed step returned (R359, log 3). -/
  stepCycles : Nat
  /-- The model's own: RENDER's answers in the iterations to come, the next one first; after the last it requests nothing
  (R350, log 4). -/
  renderScript : List RenderAnswer
deriving DecidableEq, Repr

/-- Why the core takes no step. -/
inductive Fault
  /-- Raised by `iterate` (Machine/Loop.lean) in a state whose sticky `fault` field is set: "the core takes no step after it"
  (R12, R360). Safe: the core stops here too. -/
  | decodeFault (pc : Word) (byte : Byte)
deriving DecidableEq, Repr

/-- Why the model gives a step no meaning. -/
inductive Refusal
  /-- Raised by an arm of `exec` whose instruction has no meaning yet; at present by none. Safe: nothing follows a refusal. -/
  | notModelled (mnemonic : String)
deriving DecidableEq, Repr

/-- What a step or an instruction ends in. -/
abbrev Result := Host.Outcome State Fault Refusal

/-- Power-on (R370 to R379) with an empty cartridge image: every cartridge byte 0x00, so no controller (R58, R379). The window
and the external RAM list nothing, because an unlisted address reads as its power-on contents (`Storage.unlisted`). -/
def State.reset : State where
  a := 0x01
  f := 0xB0
  b := 0x00
  c := 0x13
  d := 0x00
  e := 0xD8
  h := 0x01
  l := 0x4D
  sp := 0xFFFE
  pc := 0x0100
  ime := false
  eiPending := false
  diPending := false
  halted := false
  divCounter := 0x0000
  timerCounter := 1024
  joyLatch := 0xFF
  mbc := .noController
  romBank := 0x01
  ramBank := 0
  ramEnabled := false
  romBankingMode := true
  win := []
  eram := []
  cart := []
  fault := none
  frameCycles := 0
  stepCycles := 0
  renderScript := []

end Sys2Proof.Machine
end

