-- ==== Sys2Proof/Machine/Ops.lean ====
section
/-! DEFINITION. The named operations over memory and registers: storage arrays, the register pairs, the bus primitives MemRead
and MemWrite with their banking and I/O effects (20_memory.md), the stack (R130, R131), interrupt requests, taking an interrupt
and returning from one (60_exceptions.md). -/

namespace Sys2Proof.Machine

/-! ### Storage arrays (R39) -/

/-- The bytes of each array (R8, R39). -/
def Storage.size : Storage → Nat
  | .win => Config.winSize
  | .eram => Config.eramSize
  | .cart => Config.cartSize

/-- The I/O registers with a power-on value of their own (R373; log 13). -/
def ioPowerOn : List Host.Cell :=
  [(0xFF05, 0x00), (0xFF06, 0x00), (0xFF07, 0x00), (0xFF10, 0x80), (0xFF11, 0xBF), (0xFF12, 0xF3), (0xFF14, 0xBF), (0xFF16, 0x3F)] ++
  [(0xFF17, 0x00), (0xFF19, 0xBF), (0xFF1A, 0x7F), (0xFF1B, 0xFF), (0xFF1C, 0x9F), (0xFF1E, 0xBF), (0xFF20, 0xFF), (0xFF21, 0x00)] ++
  [(0xFF22, 0x00), (0xFF23, 0xBF), (0xFF24, 0x77), (0xFF25, 0xF3), (0xFF26, 0xF1), (0xFF40, 0x91), (0xFF42, 0x00), (0xFF43, 0x00)] ++
  [(0xFF45, 0x00), (0xFF47, 0xFC), (0xFF48, 0xFF), (0xFF49, 0xFF), (0xFF4A, 0x00), (0xFF4B, 0x00), (0xFFFF, 0x00)]

/-- What an unlisted address reads as: the power-on contents (R373, R374, R379), for the cartridge the 0x00 past the image
(R379, D5). -/
def Storage.unlisted : Storage → Nat → Byte
  | .win, n => (ioPowerOn.lookup n).getD 0x00
  | .eram, _ => 0x00
  | .cart, _ => 0x00

/-- The canonical form: addresses strictly rising, inside the array, and no entry equal to what an unlisted address reads as. -/
abbrev Memory.wf (st : Storage) (m : Memory) : Prop :=
  m.Pairwise (fun x y => x.1 < y.1) ∧ ∀ x ∈ m, x.1 < st.size ∧ x.2 ≠ st.unlisted x.1

/-- The byte at index n. -/
def Memory.read (st : Storage) : Memory → Nat → Byte
  | [], n => st.unlisted n
  | (k, v) :: rest, n => if n = k then v else Memory.read st rest n

/-- Put an entry at its place by address. -/
def Memory.insert : Memory → Nat → Byte → Memory
  | [], n, v => [(n, v)]
  | (k, w) :: rest, n, v => if n < k then (n, v) :: (k, w) :: rest else (k, w) :: Memory.insert rest n v

/-- The array with byte v at index n, in canonical form: no entry is kept for the value an unlisted address reads as. -/
def Memory.write (st : Storage) (m : Memory) (n : Nat) (v : Byte) : Memory :=
  if v = st.unlisted n then m.filter (fun x => x.1 != n) else Memory.insert (m.filter (fun x => x.1 != n)) n v

/-- `WIN[addr]`. -/
def State.winByte (s : State) (addr : Word) : Byte := Memory.read .win s.win addr.toNat

/-- `WIN[addr] <- v`: the array alone, with no bus effect. -/
def State.setWin (s : State) (addr : Word) (v : Byte) : State := { s with win := Memory.write .win s.win addr.toNat v }

/-- `CART[n]`. -/
def State.cartByte (s : State) (n : Nat) : Byte := Memory.read .cart s.cart n

/-- `ERAM[n]`. -/
def State.eramByte (s : State) (n : Nat) : Byte := Memory.read .eram s.eram n

/-- `ERAM[n] <- v`. -/
def State.setEram (s : State) (n : Nat) (v : Byte) : State := { s with eram := Memory.write .eram s.eram n v }

/-! ### Addresses of the registers the core itself uses (R15, R28 to R35) -/

def addrP1 : Word := 0xFF00
def addrDIV : Word := 0xFF04
def addrTIMA : Word := 0xFF05
def addrTMA : Word := 0xFF06
def addrTAC : Word := 0xFF07
def addrIF : Word := 0xFF0F
def addrIE : Word := 0xFFFF

/-! ### Register pairs (R21) -/

/-- AF = A:F. -/
def State.af (s : State) : Word := wordOf s.a s.f

/-- BC = B:C. -/
def State.bc (s : State) : Word := wordOf s.b s.c

/-- DE = D:E. -/
def State.de (s : State) : Word := wordOf s.d s.e

/-- HL = H:L. -/
def State.hl (s : State) : Word := wordOf s.h s.l

/-- `AF <- v`: F keeps only the upper nibble (R26, R156). -/
def State.setAF (s : State) (v : Word) : State := { s with a := hiByte v, f := loByte v &&& 0xF0 }

/-- `BC <- v`. -/
def State.setBC (s : State) (v : Word) : State := { s with b := hiByte v, c := loByte v }

/-- `DE <- v`. -/
def State.setDE (s : State) (v : Word) : State := { s with d := hiByte v, e := loByte v }

/-- `HL <- v`. -/
def State.setHL (s : State) (v : Word) : State := { s with h := hiByte v, l := loByte v }

/-! ### Banking (R58 to R64) -/

/-- The controller that the cartridge-type byte selects (R58). -/
def mbcOfType (t : Byte) : Mbc :=
  if t = 1 ∨ t = 2 ∨ t = 3 then .mbc1 else if t = 5 ∨ t = 6 then .mbc2 else .noController

/-- "a ROM bank value that computes to 0 is forced to 1" (R62, R63). -/
def forceBank (v : Byte) : Byte := if v = 0 then 1 else v

/-- HandleBanking's region 0x0000-0x1FFF: RAM enable (R61). -/
def State.ramEnableWrite (s : State) (addr : Word) (v : Byte) : State :=
  if s.mbc = .noController then s
  else if s.mbc = .mbc2 ∧ addr.getLsbD 4 = true then s
  else if v &&& 0x0F = 0x0A then { s with ramEnabled := true }
  else if v &&& 0x0F = 0x00 then { s with ramEnabled := false }
  else s

/-- LowBankSelect (R62). -/
def State.lowBankSelect (s : State) (v : Byte) : State :=
  match s.mbc with
  | .mbc2 => { s with romBank := forceBank (v &&& 0x0F) }
  | .mbc1 => { s with romBank := forceBank ((s.romBank &&& 0xE0) ||| (v &&& 0x1F)) }
  | .noController => s

/-- HighBankSelect (R63, D7, D8). -/
def State.highBankSelect (s : State) (v : Byte) : State :=
  match s.mbc with
  | .mbc1 =>
    if s.romBankingMode then { s with romBank := forceBank ((s.romBank &&& 0x1F) ||| ((v &&& 0x03) <<< 5)) }
    else { s with ramBank := v.extractLsb' 0 2 }
  | _ => s

/-- ModeSelect (R64, D9): bit 0 = 0 selects ROM-banking mode, which zeroes the RAM bank. -/
def State.modeSelect (s : State) (v : Byte) : State :=
  match s.mbc with
  | .mbc1 => if v.getLsbD 0 then { s with romBankingMode := false } else { s with romBankingMode := true, ramBank := 0 }
  | _ => s

/-- HandleBanking(addr, v) for addr in 0x0000-0x7FFF (R61 to R64). -/
def State.handleBanking (s : State) (addr : Word) (v : Byte) : State :=
  if addr.toNat ≤ 0x1FFF then s.ramEnableWrite addr v
  else if addr.toNat ≤ 0x3FFF then s.lowBankSelect v
  else if addr.toNat ≤ 0x5FFF then s.highBankSelect v
  else s.modeSelect v

/-- The index into CART of an address in 0x0000-0x7FFF (R59, C1; log 8). -/
def State.romIndex (s : State) (addr : Word) : Nat :=
  if addr.toNat ≤ 0x3FFF then addr.toNat else (addr.toNat - 0x4000) + s.romBank.toNat * 0x4000

/-- The index into ERAM of an address in 0xA000-0xBFFF (R60). -/
def State.eramIndex (s : State) (addr : Word) : Nat := (addr.toNat - 0xA000) + s.ramBank.toNat * 0x2000

/-! ### Special addresses (R65 to R69) -/

/-- JoypadRead (R66, D27). -/
def State.joypadRead (s : State) : Byte :=
  let sel := s.winByte addrP1
  let low : Byte := 0x0F
  let low := if sel.getLsbD 4 then low else low &&& s.joyLatch
  let low := if sel.getLsbD 5 then low else low &&& (s.joyLatch >>> 4)
  0xC0 ||| (sel &&& 0x30) ||| low

/-- TIMER_PERIOD[tac[1:0]] (R8, R35). -/
def timerPeriod (tac : Byte) : Int :=
  match (tac &&& 0x03).toNat with
  | 0 => 1024
  | 1 => 16
  | 2 => 64
  | _ => 256

/-- TacWrite(v) (R69, C3): the countdown is reloaded only when bits 1:0 change. -/
def State.tacWrite (s : State) (v : Byte) : State :=
  let old := s.winByte addrTAC
  let s := s.setWin addrTAC v
  if v &&& 0x03 = old &&& 0x03 then s else { s with timerCounter := timerPeriod v }

/-! ### The two bus primitives (R56, R57) -/

/-- MemRead(addr, 1) (R56). -/
def State.memRead (s : State) (addr : Word) : Byte :=
  if addr.toNat ≤ 0x7FFF then s.cartByte (s.romIndex addr)
  else if addr.toNat ≤ 0x9FFF then s.winByte addr
  else if addr.toNat ≤ 0xBFFF then (if s.ramEnabled then s.eramByte (s.eramIndex addr) else 0xFF)
  else if addr.toNat ≤ 0xDFFF then s.winByte addr
  else if addr.toNat ≤ 0xFDFF then s.winByte (addr - 0x2000)
  else if addr.toNat ≤ 0xFEFF then s.winByte addr
  else if addr = addrP1 then s.joypadRead
  else if addr = addrDIV then hiByte s.divCounter
  else s.winByte addr

/-- MemWrite(addr, 1, v) (R57). -/
def State.memWrite (s : State) (addr : Word) (v : Byte) : State :=
  if addr.toNat ≤ 0x7FFF then s.handleBanking addr v
  else if addr.toNat ≤ 0x9FFF then s.setWin addr v
  else if addr.toNat ≤ 0xBFFF then (if s.ramEnabled then s.setEram (s.eramIndex addr) v else s)
  else if addr.toNat ≤ 0xDFFF then s.setWin addr v
  else if addr.toNat ≤ 0xFDFF then s.setWin (addr - 0x2000) v
  else if addr.toNat ≤ 0xFE9F then s.setWin addr v
  else if addr.toNat ≤ 0xFEFE then s
  else if addr = addrDIV then { s with divCounter := 0 }
  else if addr = addrTAC then s.tacWrite v
  else s.setWin addr v

/-! ### The stack (R130, R131) -/

/-- Push16(v): high byte first, each at a pre-decremented SP. -/
def State.push16 (s : State) (v : Word) : State :=
  let s := { s with sp := s.sp - 1 }
  let s := s.memWrite s.sp (hiByte v)
  let s := { s with sp := s.sp - 1 }
  s.memWrite s.sp (loByte v)

/-- The value Pop16() returns. -/
def State.popValue (s : State) : Word := wordOf (s.memRead (s.sp + 1)) (s.memRead s.sp)

/-- What Pop16() does to the state: SP past the two bytes (reads change nothing, R55). -/
def State.popped (s : State) : State := { s with sp := s.sp + 2 }

/-! ### Interrupts -/

/-- The source's bit in IF and IE (R28, R341). -/
def IrqSource.mask : IrqSource → Byte
  | .vblank => 0x01
  | .lcdStat => 0x02
  | .timer => 0x04
  | .serial => 0x08
  | .joypad => 0x10

/-- The source's vector, 0x0040 + 8 * n (R341, R352). -/
def IrqSource.vector : IrqSource → Word
  | .vblank => 0x0040
  | .lcdStat => 0x0048
  | .timer => 0x0050
  | .serial => 0x0058
  | .joypad => 0x0060

/-- Request(n) (R340, D13). -/
def State.request (s : State) (n : IrqSource) : State := s.setWin addrIF (s.winByte addrIF ||| n.mask)

/-- The pending sources, IF & IE & 0x1F (R342). -/
def State.pendingMask (s : State) : Byte := s.winByte addrIF &&& s.winByte addrIE &&& 0x1F

/-- The pending source of the lowest bit (R351, R353). -/
def lowestSource (pending : Byte) : Option IrqSource :=
  if pending.getLsbD 0 then some .vblank
  else if pending.getLsbD 1 then some .lcdStat
  else if pending.getLsbD 2 then some .timer
  else if pending.getLsbD 3 then some .serial
  else if pending.getLsbD 4 then some .joypad
  else none

/-- Service(n), taking an interrupt (R352): the request bit is cleared, then `ime` and `halted`, then pc is pushed through the
full write path, and pc goes to the vector. Nothing else is saved, and the pending flags stay (D38). -/
def State.service (s : State) (n : IrqSource) : State :=
  let s := s.setWin addrIF (s.winByte addrIF &&& ~~~n.mask)
  let s := { s with ime := false, halted := false }
  let s := s.push16 s.pc
  { s with pc := n.vector }

/-- Returning from an interrupt (R259, R355, D19): pc from the stack, and `ime` set at once. -/
def State.returnFromInterrupt (s : State) : State :=
  let t := s.popped
  { t with pc := s.popValue, ime := true }

/-! ### The end of an instruction's operation -/

/-- The operation is done, and the step returns c cycles (R101, R359, log 3). -/
def done (c : Nat) (s : State) : Result := .next { s with stepCycles := c }

end Sys2Proof.Machine
end

