-- ==== Sys2Proof/Machine/Flags.lean ====
section
/-! DEFINITION. The flags (R24 to R27) and every flag computation of the spec: the ALU primitives (R180 to R184), DAA (R215), the
rotates and shifts (R219 to R222, R280 to R296), BIT (R297), ADD HL,rr (R230) and the two SP sums (R233, R234). Sums and
differences are computed exactly and narrowed at the end, so that carries and borrows are comparisons. -/

namespace Sys2Proof.Machine

/-- The four flags (R24). -/
structure Flags where
  z : Bool
  n : Bool
  h : Bool
  c : Bool
deriving DecidableEq, Repr

/-- The flag byte: Z, N, H, C in bits 7 to 4, the lower nibble 0 (R24, R26). -/
def Flags.toByte (fl : Flags) : Byte :=
  BitVec.ofBool fl.z ++ BitVec.ofBool fl.n ++ BitVec.ofBool fl.h ++ BitVec.ofBool fl.c ++ 0#4

/-- The flags of a flag byte (R24). -/
def Flags.ofByte (v : Byte) : Flags := { z := v.getLsbD 7, n := v.getLsbD 6, h := v.getLsbD 5, c := v.getLsbD 4 }

/-- The flags as they are. -/
def State.flags (s : State) : Flags := Flags.ofByte s.f

/-- Write all four flags; a caller keeps a flag by passing its old value (R26, R27). -/
def State.setFlags (s : State) (fl : Flags) : State := { s with f := fl.toByte }

/-! ### The ALU primitives -/

/-- Add8(a, b, cin) (R180). -/
def add8 (a b : Byte) (cin : Bool) : Byte × Flags :=
  let sum := a.toNat + b.toNat + cin.toNat
  (BitVec.ofNat 8 sum,
   { z := sum % 256 == 0, n := false,
     h := decide (a.toNat % 16 + b.toNat % 16 + cin.toNat > 0xF), c := decide (sum > 0xFF) })

/-- Sub8(a, b, cin) (R181). -/
def sub8 (a b : Byte) (cin : Bool) : Byte × Flags :=
  let diff : Int := (a.toNat : Int) - b.toNat - cin.toNat
  (BitVec.ofInt 8 diff,
   { z := diff % 256 == 0, n := true,
     h := decide (a.toNat % 16 < b.toNat % 16 + cin.toNat), c := decide (a.toNat < b.toNat + cin.toNat) })

/-- And8 (R183). -/
def and8 (a b : Byte) : Byte × Flags := (a &&& b, { z := a &&& b == 0, n := false, h := true, c := false })

/-- Or8 (R183). -/
def or8 (a b : Byte) : Byte × Flags := (a ||| b, { z := a ||| b == 0, n := false, h := false, c := false })

/-- Xor8 (R183). -/
def xor8 (a b : Byte) : Byte × Flags := (a ^^^ b, { z := a ^^^ b == 0, n := false, h := false, c := false })

/-- ALU[y] on A and the operand v, with the carry flag before the instruction (R185). CP's result is the one it discards
(R182). -/
def aluResult (op : AluOp) (a v : Byte) (carry : Bool) : Byte × Flags :=
  match op with
  | .add => add8 a v false
  | .adc => add8 a v carry
  | .sub => sub8 a v false
  | .sbc => sub8 a v carry
  | .and => and8 a v
  | .xor => xor8 a v
  | .or => or8 a v
  | .cp => sub8 a v false

/-- Inc8(v), which keeps C (R184). -/
def inc8 (v : Byte) (fl : Flags) : Byte × Flags :=
  (v + 1, { fl with z := v + 1 == 0, n := false, h := v &&& 0x0F == 0x0F })

/-- Dec8(v), which keeps C (R184). -/
def dec8 (v : Byte) (fl : Flags) : Byte × Flags :=
  (v - 1, { fl with z := v - 1 == 0, n := true, h := v &&& 0x0F == 0x00 })

/-- DAA (R215, D17), on A and the flags. -/
def daa (a : Byte) (fl : Flags) : Byte × Flags :=
  let v : Int := a.toNat
  let highFix : Bool := if fl.n then fl.c else fl.c || decide (a.toNat > 0x99)
  let lowFix : Bool := if fl.n then fl.h else fl.h || decide (a.toNat % 16 > 0x09)
  let fix : Int := (if highFix then 0x60 else 0) + (if lowFix then 0x06 else 0)
  let r := BitVec.ofInt 8 (if fl.n then v - fix else v + fix)
  (r, { fl with z := r == 0, h := false, c := highFix })

/-! ### Rotates and shifts -/

/-- A rotate or shift of v with the carry flag before it: the result, and the bit that becomes C (R280 to R296). -/
def rotate (op : RotOp) (v : Byte) (carry : Bool) : Byte × Bool :=
  match op with
  | .rlc => ((v <<< 1) ||| (BitVec.ofBool (v.getLsbD 7)).zeroExtend 8, v.getLsbD 7)
  | .rrc => ((v >>> 1) ||| ((BitVec.ofBool (v.getLsbD 0)).zeroExtend 8 <<< 7), v.getLsbD 0)
  | .rl => ((v <<< 1) ||| (BitVec.ofBool carry).zeroExtend 8, v.getLsbD 7)
  | .rr => ((v >>> 1) ||| ((BitVec.ofBool carry).zeroExtend 8 <<< 7), v.getLsbD 0)
  | .sla => (v <<< 1, v.getLsbD 7)
  | .sra => ((v >>> 1) ||| (v &&& 0x80), v.getLsbD 0)
  | .swap => ((v <<< 4) ||| (v >>> 4), false)
  | .srl => (v >>> 1, v.getLsbD 0)

/-- The CB rotates' flags: Z from the result, N and H 0, C the bit pushed out (R280, D16). -/
def rotFlags (r : Byte × Bool) : Flags := { z := r.1 == 0, n := false, h := false, c := r.2 }

/-- The accumulator rotates' flags: as `rotFlags`, but Z is written 0 (R219 to R222, D16). -/
def accRotFlags (r : Byte × Bool) : Flags := { z := false, n := false, h := false, c := r.2 }

/-- BIT b on v: Z the complement of the bit, N 0, H 1, C kept (R297). -/
def bitFlags (bit : Nat) (v : Byte) (fl : Flags) : Flags := { fl with z := !v.getLsbD bit, n := false, h := true }

/-! ### 16-bit sums -/

/-- ADD HL,rr: the sum, N 0, H the carry out of bit 11, C out of bit 15, Z kept (R230, D15). -/
def add16 (a b : Word) (fl : Flags) : Word × Flags :=
  (a + b,
   { fl with n := false, h := decide (a.toNat % 0x1000 + b.toNat % 0x1000 > 0x0FFF),
             c := decide (a.toNat + b.toNat > 0xFFFF) })

/-- ADD SP,e8 and LD HL,SP+e8: the sum with the signed byte, and H and C of the unsigned sum of the raw byte to the low byte
(R233, R234, D14). -/
def addSigned (sp : Word) (e : Byte) : Word × Flags :=
  (sp + sext8 e,
   { z := false, n := false, h := decide (sp.toNat % 16 + e.toNat % 16 > 0x0F),
     c := decide (sp.toNat % 256 + e.toNat > 0xFF) })

end Sys2Proof.Machine
end

