-- ==== Sys2Proof/Machine/Operands.lean ====
section
/-! DEFINITION. The operand forms: reading and writing an r8, r16 or r16stk operand (R107, R108), an accumulator operation's
source (R185), the conditions (R110), and the cycle counts that depend on the form (R101, R280). -/

namespace Sys2Proof.Machine

/-- The value of a register of r8 (R107). -/
def State.reg8 (s : State) : Reg8 → Byte
  | .b => s.b | .c => s.c | .d => s.d | .e => s.e | .h => s.h | .l => s.l | .a => s.a

/-- `r8[i] <- v` for a register (R107). -/
def State.setReg8 (s : State) (r : Reg8) (v : Byte) : State :=
  match r with
  | .b => { s with b := v }
  | .c => { s with c := v }
  | .d => { s with d := v }
  | .e => { s with e := v }
  | .h => { s with h := v }
  | .l => { s with l := v }
  | .a => { s with a := v }

/-- Reading an r8 operand: index 6 is `MemRead(HL, 1)` (R10, R107). -/
def State.readLoc (s : State) : Loc8 → Byte
  | .reg r => s.reg8 r
  | .mHL => s.memRead s.hl

/-- Writing an r8 operand: index 6 is `MemWrite(HL, 1, v)` (R10, R107). -/
def State.writeLoc (s : State) (x : Loc8) (v : Byte) : State :=
  match x with
  | .reg r => s.setReg8 r v
  | .mHL => s.memWrite s.hl v

/-- The value of r16[p] (R108). -/
def State.reg16 (s : State) : Reg16 → Word
  | .bc => s.bc | .de => s.de | .hl => s.hl | .sp => s.sp

/-- `r16[p] <- v` (R108). -/
def State.setReg16 (s : State) (p : Reg16) (v : Word) : State :=
  match p with
  | .bc => s.setBC v
  | .de => s.setDE v
  | .hl => s.setHL v
  | .sp => { s with sp := v }

/-- The value of r16stk[p] (R108). -/
def State.reg16Stk (s : State) : Reg16Stk → Word
  | .bc => s.bc | .de => s.de | .hl => s.hl | .af => s.af

/-- `r16stk[p] <- v` (R108); AF keeps only F's upper nibble (R26). -/
def State.setReg16Stk (s : State) (p : Reg16Stk) (v : Word) : State :=
  match p with
  | .bc => s.setBC v
  | .de => s.setDE v
  | .hl => s.setHL v
  | .af => s.setAF v

/-- The operand of an accumulator operation (R185). -/
def State.aluOperand (s : State) : AluSrc → Byte
  | .loc x => s.readLoc x
  | .imm n => n

/-- Cond(cc) (R110). -/
def State.cond (s : State) : Cond → Bool
  | .nz => !s.flags.z
  | .z => s.flags.z
  | .nc => !s.flags.c
  | .c => s.flags.c

/-- The count for a register operand, and for (HL). -/
def locCycles (reg mem : Nat) : Loc8 → Nat
  | .reg _ => reg
  | .mHL => mem

/-- 4 cycles for a register operand, 8 for (HL) and for an immediate (R185). -/
def aluCycles : AluSrc → Nat
  | .loc x => locCycles 4 8 x
  | .imm _ => 8

/-- The number in a 3-bit field (R104): a bit number. -/
def fieldNat : Field3 → Nat
  | .n0 => 0 | .n1 => 1 | .n2 => 2 | .n3 => 3 | .n4 => 4 | .n5 => 5 | .n6 => 6 | .n7 => 7

/-- The RST target y * 8 (R260). -/
def rstTarget (y : Field3) : Word := BitVec.ofNat 16 (fieldNat y * 8)

end Sys2Proof.Machine
end

