-- ==== Sys2Proof/Machine/Alu16.lean ====
section
/-! DEFINITION. 16-bit arithmetic (42_alu16.md, R230 to R234). -/

namespace Sys2Proof.Machine

/-! ### The operations -/

/-- ADD HL,rr (R230). -/
def addHLPair (p : Reg16) (s : State) : Result :=
  let r := add16 s.hl (s.reg16 p) s.flags
  done 8 ((s.setHL r.1).setFlags r.2)

/-- INC rr, which writes no flag (R231). -/
def incPair (p : Reg16) (s : State) : Result := done 8 (s.setReg16 p (s.reg16 p + 1))

/-- DEC rr, which writes no flag (R232). -/
def decPair (p : Reg16) (s : State) : Result := done 8 (s.setReg16 p (s.reg16 p - 1))

/-- ADD SP,e8 (R233). -/
def addSPSigned (e : Byte) (s : State) : Result :=
  let r := addSigned s.sp e
  done 16 ({ s with sp := r.1 }.setFlags r.2)

/-- LD HL,SP+e8 (R234). -/
def loadHLSPSigned (e : Byte) (s : State) : Result :=
  let r := addSigned s.sp e
  done 12 ((s.setHL r.1).setFlags r.2)

/-! ### One meaning for each row -/

/-- `INC BC` (R231). -/
def execInc_BC (s : State) : Result := incPair .bc s

/-- `ADD HL,BC` (R230). -/
def execAdd_HL_BC (s : State) : Result := addHLPair .bc s

/-- `DEC BC` (R232). -/
def execDec_BC (s : State) : Result := decPair .bc s

/-- `INC DE` (R231). -/
def execInc_DE (s : State) : Result := incPair .de s

/-- `ADD HL,DE` (R230). -/
def execAdd_HL_DE (s : State) : Result := addHLPair .de s

/-- `DEC DE` (R232). -/
def execDec_DE (s : State) : Result := decPair .de s

/-- `INC HL` (R231). -/
def execInc_HL (s : State) : Result := incPair .hl s

/-- `ADD HL,HL` (R230). -/
def execAdd_HL_HL (s : State) : Result := addHLPair .hl s

/-- `DEC HL` (R232). -/
def execDec_HL (s : State) : Result := decPair .hl s

/-- `INC SP` (R231). -/
def execInc_SP (s : State) : Result := incPair .sp s

/-- `ADD HL,SP` (R230). -/
def execAdd_HL_SP (s : State) : Result := addHLPair .sp s

/-- `DEC SP` (R232). -/
def execDec_SP (s : State) : Result := decPair .sp s

/-- `ADD SP,e8` (R233). -/
def execAdd_SP_e8 (e : Byte) (s : State) : Result := addSPSigned e s

/-- `LD HL,SP+e8` (R234). -/
def execLd_HL_SPe8 (e : Byte) (s : State) : Result := loadHLSPSigned e s

end Sys2Proof.Machine
end

