-- ==== Sys2Proof/Machine/Alu8.lean ====
section
/-! DEFINITION. 8-bit arithmetic and logic (41_alu8.md, R185 to R222): the accumulator operations, INC, DEC, DAA, CPL, SCF, CCF
and the accumulator rotates. -/

namespace Sys2Proof.Machine

/-! ### The operations -/

/-- ALU[y] on A and the operand: all four flags are written, and A by every operation but CP (R185). -/
def accumulate (op : AluOp) (src : AluSrc) (s : State) : Result :=
  let r := aluResult op s.a (s.aluOperand src) s.flags.c
  let t := s.setFlags r.2
  done (aluCycles src) (match op with | .cp => t | _ => { t with a := r.1 })

/-- INC of a register or of the byte at HL, read then written (R211, R212, D35). -/
def incLoc (x : Loc8) (s : State) : Result :=
  let r := inc8 (s.readLoc x) s.flags
  done (locCycles 4 12 x) ((s.writeLoc x r.1).setFlags r.2)

/-- DEC of a register or of the byte at HL, read then written (R213, R214, D35). -/
def decLoc (x : Loc8) (s : State) : Result :=
  let r := dec8 (s.readLoc x) s.flags
  done (locCycles 4 12 x) ((s.writeLoc x r.1).setFlags r.2)

/-- DAA (R215). -/
def adjustDecimal (s : State) : Result :=
  let r := daa s.a s.flags
  done 4 ({ s with a := r.1 }.setFlags r.2)

/-- CPL (R216, D18). -/
def complementA (s : State) : Result :=
  done 4 ({ s with a := s.a ^^^ 0xFF }.setFlags { s.flags with n := true, h := true })

/-- SCF (R217, D18). -/
def setCarry (s : State) : Result := done 4 (s.setFlags { s.flags with n := false, h := false, c := true })

/-- CCF (R218, D18). -/
def complementCarry (s : State) : Result := done 4 (s.setFlags { s.flags with n := false, h := false, c := !s.flags.c })

/-- An accumulator rotate: Z is written 0 (R219 to R222). -/
def rotateA (op : RotOp) (s : State) : Result :=
  let r := rotate op s.a s.flags.c
  done 4 ({ s with a := r.1 }.setFlags (accRotFlags r))

/-! ### One meaning for each row -/

/-- `INC B` (R211). -/
def execInc_B (s : State) : Result := incLoc (.reg .b) s

/-- `DEC B` (R213). -/
def execDec_B (s : State) : Result := decLoc (.reg .b) s

/-- `RLCA` (R219). -/
def execRlca (s : State) : Result := rotateA .rlc s

/-- `INC C` (R211). -/
def execInc_C (s : State) : Result := incLoc (.reg .c) s

/-- `DEC C` (R213). -/
def execDec_C (s : State) : Result := decLoc (.reg .c) s

/-- `RRCA` (R220). -/
def execRrca (s : State) : Result := rotateA .rrc s

/-- `INC D` (R211). -/
def execInc_D (s : State) : Result := incLoc (.reg .d) s

/-- `DEC D` (R213). -/
def execDec_D (s : State) : Result := decLoc (.reg .d) s

/-- `RLA` (R221). -/
def execRla (s : State) : Result := rotateA .rl s

/-- `INC E` (R211). -/
def execInc_E (s : State) : Result := incLoc (.reg .e) s

/-- `DEC E` (R213). -/
def execDec_E (s : State) : Result := decLoc (.reg .e) s

/-- `RRA` (R222). -/
def execRra (s : State) : Result := rotateA .rr s

/-- `INC H` (R211). -/
def execInc_H (s : State) : Result := incLoc (.reg .h) s

/-- `DEC H` (R213). -/
def execDec_H (s : State) : Result := decLoc (.reg .h) s

/-- `DAA` (R215). -/
def execDaa (s : State) : Result := adjustDecimal s

/-- `INC L` (R211). -/
def execInc_L (s : State) : Result := incLoc (.reg .l) s

/-- `DEC L` (R213). -/
def execDec_L (s : State) : Result := decLoc (.reg .l) s

/-- `CPL` (R216). -/
def execCpl (s : State) : Result := complementA s

/-- `INC (HL)` (R212). -/
def execInc_mHL (s : State) : Result := incLoc .mHL s

/-- `DEC (HL)` (R214). -/
def execDec_mHL (s : State) : Result := decLoc .mHL s

/-- `SCF` (R217). -/
def execScf (s : State) : Result := setCarry s

/-- `INC A` (R211). -/
def execInc_A (s : State) : Result := incLoc (.reg .a) s

/-- `DEC A` (R213). -/
def execDec_A (s : State) : Result := decLoc (.reg .a) s

/-- `CCF` (R218). -/
def execCcf (s : State) : Result := complementCarry s

/-- `ADD A,B` (R187). -/
def execAdd_A_B (s : State) : Result := accumulate .add (.loc (.reg .b)) s

/-- `ADD A,C` (R187). -/
def execAdd_A_C (s : State) : Result := accumulate .add (.loc (.reg .c)) s

/-- `ADD A,D` (R187). -/
def execAdd_A_D (s : State) : Result := accumulate .add (.loc (.reg .d)) s

/-- `ADD A,E` (R187). -/
def execAdd_A_E (s : State) : Result := accumulate .add (.loc (.reg .e)) s

/-- `ADD A,H` (R187). -/
def execAdd_A_H (s : State) : Result := accumulate .add (.loc (.reg .h)) s

/-- `ADD A,L` (R187). -/
def execAdd_A_L (s : State) : Result := accumulate .add (.loc (.reg .l)) s

/-- `ADD A,(HL)` (R188). -/
def execAdd_A_mHL (s : State) : Result := accumulate .add (.loc .mHL) s

/-- `ADD A,A` (R187). -/
def execAdd_A_A (s : State) : Result := accumulate .add (.loc (.reg .a)) s

/-- `ADC A,B` (R190). -/
def execAdc_A_B (s : State) : Result := accumulate .adc (.loc (.reg .b)) s

/-- `ADC A,C` (R190). -/
def execAdc_A_C (s : State) : Result := accumulate .adc (.loc (.reg .c)) s

/-- `ADC A,D` (R190). -/
def execAdc_A_D (s : State) : Result := accumulate .adc (.loc (.reg .d)) s

/-- `ADC A,E` (R190). -/
def execAdc_A_E (s : State) : Result := accumulate .adc (.loc (.reg .e)) s

/-- `ADC A,H` (R190). -/
def execAdc_A_H (s : State) : Result := accumulate .adc (.loc (.reg .h)) s

/-- `ADC A,L` (R190). -/
def execAdc_A_L (s : State) : Result := accumulate .adc (.loc (.reg .l)) s

/-- `ADC A,(HL)` (R191). -/
def execAdc_A_mHL (s : State) : Result := accumulate .adc (.loc .mHL) s

/-- `ADC A,A` (R190). -/
def execAdc_A_A (s : State) : Result := accumulate .adc (.loc (.reg .a)) s

/-- `SUB A,B` (R193). -/
def execSub_A_B (s : State) : Result := accumulate .sub (.loc (.reg .b)) s

/-- `SUB A,C` (R193). -/
def execSub_A_C (s : State) : Result := accumulate .sub (.loc (.reg .c)) s

/-- `SUB A,D` (R193). -/
def execSub_A_D (s : State) : Result := accumulate .sub (.loc (.reg .d)) s

/-- `SUB A,E` (R193). -/
def execSub_A_E (s : State) : Result := accumulate .sub (.loc (.reg .e)) s

/-- `SUB A,H` (R193). -/
def execSub_A_H (s : State) : Result := accumulate .sub (.loc (.reg .h)) s

/-- `SUB A,L` (R193). -/
def execSub_A_L (s : State) : Result := accumulate .sub (.loc (.reg .l)) s

/-- `SUB A,(HL)` (R194). -/
def execSub_A_mHL (s : State) : Result := accumulate .sub (.loc .mHL) s

/-- `SUB A,A` (R193). -/
def execSub_A_A (s : State) : Result := accumulate .sub (.loc (.reg .a)) s

/-- `SBC A,B` (R196). -/
def execSbc_A_B (s : State) : Result := accumulate .sbc (.loc (.reg .b)) s

/-- `SBC A,C` (R196). -/
def execSbc_A_C (s : State) : Result := accumulate .sbc (.loc (.reg .c)) s

/-- `SBC A,D` (R196). -/
def execSbc_A_D (s : State) : Result := accumulate .sbc (.loc (.reg .d)) s

/-- `SBC A,E` (R196). -/
def execSbc_A_E (s : State) : Result := accumulate .sbc (.loc (.reg .e)) s

/-- `SBC A,H` (R196). -/
def execSbc_A_H (s : State) : Result := accumulate .sbc (.loc (.reg .h)) s

/-- `SBC A,L` (R196). -/
def execSbc_A_L (s : State) : Result := accumulate .sbc (.loc (.reg .l)) s

/-- `SBC A,(HL)` (R197). -/
def execSbc_A_mHL (s : State) : Result := accumulate .sbc (.loc .mHL) s

/-- `SBC A,A` (R196). -/
def execSbc_A_A (s : State) : Result := accumulate .sbc (.loc (.reg .a)) s

/-- `AND A,B` (R199). -/
def execAnd_A_B (s : State) : Result := accumulate .and (.loc (.reg .b)) s

/-- `AND A,C` (R199). -/
def execAnd_A_C (s : State) : Result := accumulate .and (.loc (.reg .c)) s

/-- `AND A,D` (R199). -/
def execAnd_A_D (s : State) : Result := accumulate .and (.loc (.reg .d)) s

/-- `AND A,E` (R199). -/
def execAnd_A_E (s : State) : Result := accumulate .and (.loc (.reg .e)) s

/-- `AND A,H` (R199). -/
def execAnd_A_H (s : State) : Result := accumulate .and (.loc (.reg .h)) s

/-- `AND A,L` (R199). -/
def execAnd_A_L (s : State) : Result := accumulate .and (.loc (.reg .l)) s

/-- `AND A,(HL)` (R200). -/
def execAnd_A_mHL (s : State) : Result := accumulate .and (.loc .mHL) s

/-- `AND A,A` (R199). -/
def execAnd_A_A (s : State) : Result := accumulate .and (.loc (.reg .a)) s

/-- `XOR A,B` (R202). -/
def execXor_A_B (s : State) : Result := accumulate .xor (.loc (.reg .b)) s

/-- `XOR A,C` (R202). -/
def execXor_A_C (s : State) : Result := accumulate .xor (.loc (.reg .c)) s

/-- `XOR A,D` (R202). -/
def execXor_A_D (s : State) : Result := accumulate .xor (.loc (.reg .d)) s

/-- `XOR A,E` (R202). -/
def execXor_A_E (s : State) : Result := accumulate .xor (.loc (.reg .e)) s

/-- `XOR A,H` (R202). -/
def execXor_A_H (s : State) : Result := accumulate .xor (.loc (.reg .h)) s

/-- `XOR A,L` (R202). -/
def execXor_A_L (s : State) : Result := accumulate .xor (.loc (.reg .l)) s

/-- `XOR A,(HL)` (R203). -/
def execXor_A_mHL (s : State) : Result := accumulate .xor (.loc .mHL) s

/-- `XOR A,A` (R202). -/
def execXor_A_A (s : State) : Result := accumulate .xor (.loc (.reg .a)) s

/-- `OR A,B` (R205). -/
def execOr_A_B (s : State) : Result := accumulate .or (.loc (.reg .b)) s

/-- `OR A,C` (R205). -/
def execOr_A_C (s : State) : Result := accumulate .or (.loc (.reg .c)) s

/-- `OR A,D` (R205). -/
def execOr_A_D (s : State) : Result := accumulate .or (.loc (.reg .d)) s

/-- `OR A,E` (R205). -/
def execOr_A_E (s : State) : Result := accumulate .or (.loc (.reg .e)) s

/-- `OR A,H` (R205). -/
def execOr_A_H (s : State) : Result := accumulate .or (.loc (.reg .h)) s

/-- `OR A,L` (R205). -/
def execOr_A_L (s : State) : Result := accumulate .or (.loc (.reg .l)) s

/-- `OR A,(HL)` (R206). -/
def execOr_A_mHL (s : State) : Result := accumulate .or (.loc .mHL) s

/-- `OR A,A` (R205). -/
def execOr_A_A (s : State) : Result := accumulate .or (.loc (.reg .a)) s

/-- `CP A,B` (R208). -/
def execCp_A_B (s : State) : Result := accumulate .cp (.loc (.reg .b)) s

/-- `CP A,C` (R208). -/
def execCp_A_C (s : State) : Result := accumulate .cp (.loc (.reg .c)) s

/-- `CP A,D` (R208). -/
def execCp_A_D (s : State) : Result := accumulate .cp (.loc (.reg .d)) s

/-- `CP A,E` (R208). -/
def execCp_A_E (s : State) : Result := accumulate .cp (.loc (.reg .e)) s

/-- `CP A,H` (R208). -/
def execCp_A_H (s : State) : Result := accumulate .cp (.loc (.reg .h)) s

/-- `CP A,L` (R208). -/
def execCp_A_L (s : State) : Result := accumulate .cp (.loc (.reg .l)) s

/-- `CP A,(HL)` (R209). -/
def execCp_A_mHL (s : State) : Result := accumulate .cp (.loc .mHL) s

/-- `CP A,A` (R208). -/
def execCp_A_A (s : State) : Result := accumulate .cp (.loc (.reg .a)) s

/-- `ADD A,n8` (R189). -/
def execAdd_A_n8 (n : Byte) (s : State) : Result := accumulate .add (.imm n) s

/-- `ADC A,n8` (R192). -/
def execAdc_A_n8 (n : Byte) (s : State) : Result := accumulate .adc (.imm n) s

/-- `SUB A,n8` (R195). -/
def execSub_A_n8 (n : Byte) (s : State) : Result := accumulate .sub (.imm n) s

/-- `SBC A,n8` (R198). -/
def execSbc_A_n8 (n : Byte) (s : State) : Result := accumulate .sbc (.imm n) s

/-- `AND A,n8` (R201). -/
def execAnd_A_n8 (n : Byte) (s : State) : Result := accumulate .and (.imm n) s

/-- `XOR A,n8` (R204). -/
def execXor_A_n8 (n : Byte) (s : State) : Result := accumulate .xor (.imm n) s

/-- `OR A,n8` (R207). -/
def execOr_A_n8 (n : Byte) (s : State) : Result := accumulate .or (.imm n) s

/-- `CP A,n8` (R210). -/
def execCp_A_n8 (n : Byte) (s : State) : Result := accumulate .cp (.imm n) s

end Sys2Proof.Machine
end

