-- ==== Sys2Proof/Machine/CbBitops.lean ====
section
/-! DEFINITION. The CB-prefixed rotates, shifts, SWAP and bit operations (44_cb_bitops.md, R280 to R302). -/

namespace Sys2Proof.Machine

/-! ### The operations -/

/-- A rotate, shift or SWAP of a register or of the byte at HL, read then written (R280 to R296, D35). -/
def rotateLoc (op : RotOp) (x : Loc8) (s : State) : Result :=
  let r := rotate op (s.readLoc x) s.flags.c
  done (locCycles 8 16 x) ((s.writeLoc x r.1).setFlags (rotFlags r))

/-- BIT b: only read (R297, R298). -/
def testBit (n : Field3) (x : Loc8) (s : State) : Result :=
  done (locCycles 8 12 x) (s.setFlags (bitFlags (fieldNat n) (s.readLoc x) s.flags))

/-- RES b: no flag; the byte at HL is written even when it does not change (R299, R300). -/
def resetBit (n : Field3) (x : Loc8) (s : State) : Result :=
  done (locCycles 8 16 x) (s.writeLoc x (s.readLoc x &&& ~~~(1#8 <<< fieldNat n)))

/-- SET b: no flag; the byte at HL is written even when it does not change (R301, R302). -/
def setBit (n : Field3) (x : Loc8) (s : State) : Result :=
  done (locCycles 8 16 x) (s.writeLoc x (s.readLoc x ||| (1#8 <<< fieldNat n)))

/-! ### One meaning for each row -/

/-- `RLC B` (R281). -/
def execRlc_B (s : State) : Result := rotateLoc .rlc (.reg .b) s

/-- `RLC C` (R281). -/
def execRlc_C (s : State) : Result := rotateLoc .rlc (.reg .c) s

/-- `RLC D` (R281). -/
def execRlc_D (s : State) : Result := rotateLoc .rlc (.reg .d) s

/-- `RLC E` (R281). -/
def execRlc_E (s : State) : Result := rotateLoc .rlc (.reg .e) s

/-- `RLC H` (R281). -/
def execRlc_H (s : State) : Result := rotateLoc .rlc (.reg .h) s

/-- `RLC L` (R281). -/
def execRlc_L (s : State) : Result := rotateLoc .rlc (.reg .l) s

/-- `RLC (HL)` (R282). -/
def execRlc_mHL (s : State) : Result := rotateLoc .rlc .mHL s

/-- `RLC A` (R281). -/
def execRlc_A (s : State) : Result := rotateLoc .rlc (.reg .a) s

/-- `RRC B` (R283). -/
def execRrc_B (s : State) : Result := rotateLoc .rrc (.reg .b) s

/-- `RRC C` (R283). -/
def execRrc_C (s : State) : Result := rotateLoc .rrc (.reg .c) s

/-- `RRC D` (R283). -/
def execRrc_D (s : State) : Result := rotateLoc .rrc (.reg .d) s

/-- `RRC E` (R283). -/
def execRrc_E (s : State) : Result := rotateLoc .rrc (.reg .e) s

/-- `RRC H` (R283). -/
def execRrc_H (s : State) : Result := rotateLoc .rrc (.reg .h) s

/-- `RRC L` (R283). -/
def execRrc_L (s : State) : Result := rotateLoc .rrc (.reg .l) s

/-- `RRC (HL)` (R284). -/
def execRrc_mHL (s : State) : Result := rotateLoc .rrc .mHL s

/-- `RRC A` (R283). -/
def execRrc_A (s : State) : Result := rotateLoc .rrc (.reg .a) s

/-- `RL B` (R285). -/
def execRl_B (s : State) : Result := rotateLoc .rl (.reg .b) s

/-- `RL C` (R285). -/
def execRl_C (s : State) : Result := rotateLoc .rl (.reg .c) s

/-- `RL D` (R285). -/
def execRl_D (s : State) : Result := rotateLoc .rl (.reg .d) s

/-- `RL E` (R285). -/
def execRl_E (s : State) : Result := rotateLoc .rl (.reg .e) s

/-- `RL H` (R285). -/
def execRl_H (s : State) : Result := rotateLoc .rl (.reg .h) s

/-- `RL L` (R285). -/
def execRl_L (s : State) : Result := rotateLoc .rl (.reg .l) s

/-- `RL (HL)` (R286). -/
def execRl_mHL (s : State) : Result := rotateLoc .rl .mHL s

/-- `RL A` (R285). -/
def execRl_A (s : State) : Result := rotateLoc .rl (.reg .a) s

/-- `RR B` (R287). -/
def execRr_B (s : State) : Result := rotateLoc .rr (.reg .b) s

/-- `RR C` (R287). -/
def execRr_C (s : State) : Result := rotateLoc .rr (.reg .c) s

/-- `RR D` (R287). -/
def execRr_D (s : State) : Result := rotateLoc .rr (.reg .d) s

/-- `RR E` (R287). -/
def execRr_E (s : State) : Result := rotateLoc .rr (.reg .e) s

/-- `RR H` (R287). -/
def execRr_H (s : State) : Result := rotateLoc .rr (.reg .h) s

/-- `RR L` (R287). -/
def execRr_L (s : State) : Result := rotateLoc .rr (.reg .l) s

/-- `RR (HL)` (R288). -/
def execRr_mHL (s : State) : Result := rotateLoc .rr .mHL s

/-- `RR A` (R287). -/
def execRr_A (s : State) : Result := rotateLoc .rr (.reg .a) s

/-- `SLA B` (R289). -/
def execSla_B (s : State) : Result := rotateLoc .sla (.reg .b) s

/-- `SLA C` (R289). -/
def execSla_C (s : State) : Result := rotateLoc .sla (.reg .c) s

/-- `SLA D` (R289). -/
def execSla_D (s : State) : Result := rotateLoc .sla (.reg .d) s

/-- `SLA E` (R289). -/
def execSla_E (s : State) : Result := rotateLoc .sla (.reg .e) s

/-- `SLA H` (R289). -/
def execSla_H (s : State) : Result := rotateLoc .sla (.reg .h) s

/-- `SLA L` (R289). -/
def execSla_L (s : State) : Result := rotateLoc .sla (.reg .l) s

/-- `SLA (HL)` (R290). -/
def execSla_mHL (s : State) : Result := rotateLoc .sla .mHL s

/-- `SLA A` (R289). -/
def execSla_A (s : State) : Result := rotateLoc .sla (.reg .a) s

/-- `SRA B` (R291). -/
def execSra_B (s : State) : Result := rotateLoc .sra (.reg .b) s

/-- `SRA C` (R291). -/
def execSra_C (s : State) : Result := rotateLoc .sra (.reg .c) s

/-- `SRA D` (R291). -/
def execSra_D (s : State) : Result := rotateLoc .sra (.reg .d) s

/-- `SRA E` (R291). -/
def execSra_E (s : State) : Result := rotateLoc .sra (.reg .e) s

/-- `SRA H` (R291). -/
def execSra_H (s : State) : Result := rotateLoc .sra (.reg .h) s

/-- `SRA L` (R291). -/
def execSra_L (s : State) : Result := rotateLoc .sra (.reg .l) s

/-- `SRA (HL)` (R292). -/
def execSra_mHL (s : State) : Result := rotateLoc .sra .mHL s

/-- `SRA A` (R291). -/
def execSra_A (s : State) : Result := rotateLoc .sra (.reg .a) s

/-- `SWAP B` (R293). -/
def execSwap_B (s : State) : Result := rotateLoc .swap (.reg .b) s

/-- `SWAP C` (R293). -/
def execSwap_C (s : State) : Result := rotateLoc .swap (.reg .c) s

/-- `SWAP D` (R293). -/
def execSwap_D (s : State) : Result := rotateLoc .swap (.reg .d) s

/-- `SWAP E` (R293). -/
def execSwap_E (s : State) : Result := rotateLoc .swap (.reg .e) s

/-- `SWAP H` (R293). -/
def execSwap_H (s : State) : Result := rotateLoc .swap (.reg .h) s

/-- `SWAP L` (R293). -/
def execSwap_L (s : State) : Result := rotateLoc .swap (.reg .l) s

/-- `SWAP (HL)` (R294). -/
def execSwap_mHL (s : State) : Result := rotateLoc .swap .mHL s

/-- `SWAP A` (R293). -/
def execSwap_A (s : State) : Result := rotateLoc .swap (.reg .a) s

/-- `SRL B` (R295). -/
def execSrl_B (s : State) : Result := rotateLoc .srl (.reg .b) s

/-- `SRL C` (R295). -/
def execSrl_C (s : State) : Result := rotateLoc .srl (.reg .c) s

/-- `SRL D` (R295). -/
def execSrl_D (s : State) : Result := rotateLoc .srl (.reg .d) s

/-- `SRL E` (R295). -/
def execSrl_E (s : State) : Result := rotateLoc .srl (.reg .e) s

/-- `SRL H` (R295). -/
def execSrl_H (s : State) : Result := rotateLoc .srl (.reg .h) s

/-- `SRL L` (R295). -/
def execSrl_L (s : State) : Result := rotateLoc .srl (.reg .l) s

/-- `SRL (HL)` (R296). -/
def execSrl_mHL (s : State) : Result := rotateLoc .srl .mHL s

/-- `SRL A` (R295). -/
def execSrl_A (s : State) : Result := rotateLoc .srl (.reg .a) s

/-- `BIT 0,B` (R297). -/
def execBit_0_B (s : State) : Result := testBit .n0 (.reg .b) s

/-- `BIT 0,C` (R297). -/
def execBit_0_C (s : State) : Result := testBit .n0 (.reg .c) s

/-- `BIT 0,D` (R297). -/
def execBit_0_D (s : State) : Result := testBit .n0 (.reg .d) s

/-- `BIT 0,E` (R297). -/
def execBit_0_E (s : State) : Result := testBit .n0 (.reg .e) s

/-- `BIT 0,H` (R297). -/
def execBit_0_H (s : State) : Result := testBit .n0 (.reg .h) s

/-- `BIT 0,L` (R297). -/
def execBit_0_L (s : State) : Result := testBit .n0 (.reg .l) s

/-- `BIT 0,(HL)` (R298). -/
def execBit_0_mHL (s : State) : Result := testBit .n0 .mHL s

/-- `BIT 0,A` (R297). -/
def execBit_0_A (s : State) : Result := testBit .n0 (.reg .a) s

/-- `BIT 1,B` (R297). -/
def execBit_1_B (s : State) : Result := testBit .n1 (.reg .b) s

/-- `BIT 1,C` (R297). -/
def execBit_1_C (s : State) : Result := testBit .n1 (.reg .c) s

/-- `BIT 1,D` (R297). -/
def execBit_1_D (s : State) : Result := testBit .n1 (.reg .d) s

/-- `BIT 1,E` (R297). -/
def execBit_1_E (s : State) : Result := testBit .n1 (.reg .e) s

/-- `BIT 1,H` (R297). -/
def execBit_1_H (s : State) : Result := testBit .n1 (.reg .h) s

/-- `BIT 1,L` (R297). -/
def execBit_1_L (s : State) : Result := testBit .n1 (.reg .l) s

/-- `BIT 1,(HL)` (R298). -/
def execBit_1_mHL (s : State) : Result := testBit .n1 .mHL s

/-- `BIT 1,A` (R297). -/
def execBit_1_A (s : State) : Result := testBit .n1 (.reg .a) s

/-- `BIT 2,B` (R297). -/
def execBit_2_B (s : State) : Result := testBit .n2 (.reg .b) s

/-- `BIT 2,C` (R297). -/
def execBit_2_C (s : State) : Result := testBit .n2 (.reg .c) s

/-- `BIT 2,D` (R297). -/
def execBit_2_D (s : State) : Result := testBit .n2 (.reg .d) s

/-- `BIT 2,E` (R297). -/
def execBit_2_E (s : State) : Result := testBit .n2 (.reg .e) s

/-- `BIT 2,H` (R297). -/
def execBit_2_H (s : State) : Result := testBit .n2 (.reg .h) s

/-- `BIT 2,L` (R297). -/
def execBit_2_L (s : State) : Result := testBit .n2 (.reg .l) s

/-- `BIT 2,(HL)` (R298). -/
def execBit_2_mHL (s : State) : Result := testBit .n2 .mHL s

/-- `BIT 2,A` (R297). -/
def execBit_2_A (s : State) : Result := testBit .n2 (.reg .a) s

/-- `BIT 3,B` (R297). -/
def execBit_3_B (s : State) : Result := testBit .n3 (.reg .b) s

/-- `BIT 3,C` (R297). -/
def execBit_3_C (s : State) : Result := testBit .n3 (.reg .c) s

/-- `BIT 3,D` (R297). -/
def execBit_3_D (s : State) : Result := testBit .n3 (.reg .d) s

/-- `BIT 3,E` (R297). -/
def execBit_3_E (s : State) : Result := testBit .n3 (.reg .e) s

/-- `BIT 3,H` (R297). -/
def execBit_3_H (s : State) : Result := testBit .n3 (.reg .h) s

/-- `BIT 3,L` (R297). -/
def execBit_3_L (s : State) : Result := testBit .n3 (.reg .l) s

/-- `BIT 3,(HL)` (R298). -/
def execBit_3_mHL (s : State) : Result := testBit .n3 .mHL s

/-- `BIT 3,A` (R297). -/
def execBit_3_A (s : State) : Result := testBit .n3 (.reg .a) s

/-- `BIT 4,B` (R297). -/
def execBit_4_B (s : State) : Result := testBit .n4 (.reg .b) s

/-- `BIT 4,C` (R297). -/
def execBit_4_C (s : State) : Result := testBit .n4 (.reg .c) s

/-- `BIT 4,D` (R297). -/
def execBit_4_D (s : State) : Result := testBit .n4 (.reg .d) s

/-- `BIT 4,E` (R297). -/
def execBit_4_E (s : State) : Result := testBit .n4 (.reg .e) s

/-- `BIT 4,H` (R297). -/
def execBit_4_H (s : State) : Result := testBit .n4 (.reg .h) s

/-- `BIT 4,L` (R297). -/
def execBit_4_L (s : State) : Result := testBit .n4 (.reg .l) s

/-- `BIT 4,(HL)` (R298). -/
def execBit_4_mHL (s : State) : Result := testBit .n4 .mHL s

/-- `BIT 4,A` (R297). -/
def execBit_4_A (s : State) : Result := testBit .n4 (.reg .a) s

/-- `BIT 5,B` (R297). -/
def execBit_5_B (s : State) : Result := testBit .n5 (.reg .b) s

/-- `BIT 5,C` (R297). -/
def execBit_5_C (s : State) : Result := testBit .n5 (.reg .c) s

/-- `BIT 5,D` (R297). -/
def execBit_5_D (s : State) : Result := testBit .n5 (.reg .d) s

/-- `BIT 5,E` (R297). -/
def execBit_5_E (s : State) : Result := testBit .n5 (.reg .e) s

/-- `BIT 5,H` (R297). -/
def execBit_5_H (s : State) : Result := testBit .n5 (.reg .h) s

/-- `BIT 5,L` (R297). -/
def execBit_5_L (s : State) : Result := testBit .n5 (.reg .l) s

/-- `BIT 5,(HL)` (R298). -/
def execBit_5_mHL (s : State) : Result := testBit .n5 .mHL s

/-- `BIT 5,A` (R297). -/
def execBit_5_A (s : State) : Result := testBit .n5 (.reg .a) s

/-- `BIT 6,B` (R297). -/
def execBit_6_B (s : State) : Result := testBit .n6 (.reg .b) s

/-- `BIT 6,C` (R297). -/
def execBit_6_C (s : State) : Result := testBit .n6 (.reg .c) s

/-- `BIT 6,D` (R297). -/
def execBit_6_D (s : State) : Result := testBit .n6 (.reg .d) s

/-- `BIT 6,E` (R297). -/
def execBit_6_E (s : State) : Result := testBit .n6 (.reg .e) s

/-- `BIT 6,H` (R297). -/
def execBit_6_H (s : State) : Result := testBit .n6 (.reg .h) s

/-- `BIT 6,L` (R297). -/
def execBit_6_L (s : State) : Result := testBit .n6 (.reg .l) s

/-- `BIT 6,(HL)` (R298). -/
def execBit_6_mHL (s : State) : Result := testBit .n6 .mHL s

/-- `BIT 6,A` (R297). -/
def execBit_6_A (s : State) : Result := testBit .n6 (.reg .a) s

/-- `BIT 7,B` (R297). -/
def execBit_7_B (s : State) : Result := testBit .n7 (.reg .b) s

/-- `BIT 7,C` (R297). -/
def execBit_7_C (s : State) : Result := testBit .n7 (.reg .c) s

/-- `BIT 7,D` (R297). -/
def execBit_7_D (s : State) : Result := testBit .n7 (.reg .d) s

/-- `BIT 7,E` (R297). -/
def execBit_7_E (s : State) : Result := testBit .n7 (.reg .e) s

/-- `BIT 7,H` (R297). -/
def execBit_7_H (s : State) : Result := testBit .n7 (.reg .h) s

/-- `BIT 7,L` (R297). -/
def execBit_7_L (s : State) : Result := testBit .n7 (.reg .l) s

/-- `BIT 7,(HL)` (R298). -/
def execBit_7_mHL (s : State) : Result := testBit .n7 .mHL s

/-- `BIT 7,A` (R297). -/
def execBit_7_A (s : State) : Result := testBit .n7 (.reg .a) s

/-- `RES 0,B` (R299). -/
def execRes_0_B (s : State) : Result := resetBit .n0 (.reg .b) s

/-- `RES 0,C` (R299). -/
def execRes_0_C (s : State) : Result := resetBit .n0 (.reg .c) s

/-- `RES 0,D` (R299). -/
def execRes_0_D (s : State) : Result := resetBit .n0 (.reg .d) s

/-- `RES 0,E` (R299). -/
def execRes_0_E (s : State) : Result := resetBit .n0 (.reg .e) s

/-- `RES 0,H` (R299). -/
def execRes_0_H (s : State) : Result := resetBit .n0 (.reg .h) s

/-- `RES 0,L` (R299). -/
def execRes_0_L (s : State) : Result := resetBit .n0 (.reg .l) s

/-- `RES 0,(HL)` (R300). -/
def execRes_0_mHL (s : State) : Result := resetBit .n0 .mHL s

/-- `RES 0,A` (R299). -/
def execRes_0_A (s : State) : Result := resetBit .n0 (.reg .a) s

/-- `RES 1,B` (R299). -/
def execRes_1_B (s : State) : Result := resetBit .n1 (.reg .b) s

/-- `RES 1,C` (R299). -/
def execRes_1_C (s : State) : Result := resetBit .n1 (.reg .c) s

/-- `RES 1,D` (R299). -/
def execRes_1_D (s : State) : Result := resetBit .n1 (.reg .d) s

/-- `RES 1,E` (R299). -/
def execRes_1_E (s : State) : Result := resetBit .n1 (.reg .e) s

/-- `RES 1,H` (R299). -/
def execRes_1_H (s : State) : Result := resetBit .n1 (.reg .h) s

/-- `RES 1,L` (R299). -/
def execRes_1_L (s : State) : Result := resetBit .n1 (.reg .l) s

/-- `RES 1,(HL)` (R300). -/
def execRes_1_mHL (s : State) : Result := resetBit .n1 .mHL s

/-- `RES 1,A` (R299). -/
def execRes_1_A (s : State) : Result := resetBit .n1 (.reg .a) s

/-- `RES 2,B` (R299). -/
def execRes_2_B (s : State) : Result := resetBit .n2 (.reg .b) s

/-- `RES 2,C` (R299). -/
def execRes_2_C (s : State) : Result := resetBit .n2 (.reg .c) s

/-- `RES 2,D` (R299). -/
def execRes_2_D (s : State) : Result := resetBit .n2 (.reg .d) s

/-- `RES 2,E` (R299). -/
def execRes_2_E (s : State) : Result := resetBit .n2 (.reg .e) s

/-- `RES 2,H` (R299). -/
def execRes_2_H (s : State) : Result := resetBit .n2 (.reg .h) s

/-- `RES 2,L` (R299). -/
def execRes_2_L (s : State) : Result := resetBit .n2 (.reg .l) s

/-- `RES 2,(HL)` (R300). -/
def execRes_2_mHL (s : State) : Result := resetBit .n2 .mHL s

/-- `RES 2,A` (R299). -/
def execRes_2_A (s : State) : Result := resetBit .n2 (.reg .a) s

/-- `RES 3,B` (R299). -/
def execRes_3_B (s : State) : Result := resetBit .n3 (.reg .b) s

/-- `RES 3,C` (R299). -/
def execRes_3_C (s : State) : Result := resetBit .n3 (.reg .c) s

/-- `RES 3,D` (R299). -/
def execRes_3_D (s : State) : Result := resetBit .n3 (.reg .d) s

/-- `RES 3,E` (R299). -/
def execRes_3_E (s : State) : Result := resetBit .n3 (.reg .e) s

/-- `RES 3,H` (R299). -/
def execRes_3_H (s : State) : Result := resetBit .n3 (.reg .h) s

/-- `RES 3,L` (R299). -/
def execRes_3_L (s : State) : Result := resetBit .n3 (.reg .l) s

/-- `RES 3,(HL)` (R300). -/
def execRes_3_mHL (s : State) : Result := resetBit .n3 .mHL s

/-- `RES 3,A` (R299). -/
def execRes_3_A (s : State) : Result := resetBit .n3 (.reg .a) s

/-- `RES 4,B` (R299). -/
def execRes_4_B (s : State) : Result := resetBit .n4 (.reg .b) s

/-- `RES 4,C` (R299). -/
def execRes_4_C (s : State) : Result := resetBit .n4 (.reg .c) s

/-- `RES 4,D` (R299). -/
def execRes_4_D (s : State) : Result := resetBit .n4 (.reg .d) s

/-- `RES 4,E` (R299). -/
def execRes_4_E (s : State) : Result := resetBit .n4 (.reg .e) s

/-- `RES 4,H` (R299). -/
def execRes_4_H (s : State) : Result := resetBit .n4 (.reg .h) s

/-- `RES 4,L` (R299). -/
def execRes_4_L (s : State) : Result := resetBit .n4 (.reg .l) s

/-- `RES 4,(HL)` (R300). -/
def execRes_4_mHL (s : State) : Result := resetBit .n4 .mHL s

/-- `RES 4,A` (R299). -/
def execRes_4_A (s : State) : Result := resetBit .n4 (.reg .a) s

/-- `RES 5,B` (R299). -/
def execRes_5_B (s : State) : Result := resetBit .n5 (.reg .b) s

/-- `RES 5,C` (R299). -/
def execRes_5_C (s : State) : Result := resetBit .n5 (.reg .c) s

/-- `RES 5,D` (R299). -/
def execRes_5_D (s : State) : Result := resetBit .n5 (.reg .d) s

/-- `RES 5,E` (R299). -/
def execRes_5_E (s : State) : Result := resetBit .n5 (.reg .e) s

/-- `RES 5,H` (R299). -/
def execRes_5_H (s : State) : Result := resetBit .n5 (.reg .h) s

/-- `RES 5,L` (R299). -/
def execRes_5_L (s : State) : Result := resetBit .n5 (.reg .l) s

/-- `RES 5,(HL)` (R300). -/
def execRes_5_mHL (s : State) : Result := resetBit .n5 .mHL s

/-- `RES 5,A` (R299). -/
def execRes_5_A (s : State) : Result := resetBit .n5 (.reg .a) s

/-- `RES 6,B` (R299). -/
def execRes_6_B (s : State) : Result := resetBit .n6 (.reg .b) s

/-- `RES 6,C` (R299). -/
def execRes_6_C (s : State) : Result := resetBit .n6 (.reg .c) s

/-- `RES 6,D` (R299). -/
def execRes_6_D (s : State) : Result := resetBit .n6 (.reg .d) s

/-- `RES 6,E` (R299). -/
def execRes_6_E (s : State) : Result := resetBit .n6 (.reg .e) s

/-- `RES 6,H` (R299). -/
def execRes_6_H (s : State) : Result := resetBit .n6 (.reg .h) s

/-- `RES 6,L` (R299). -/
def execRes_6_L (s : State) : Result := resetBit .n6 (.reg .l) s

/-- `RES 6,(HL)` (R300). -/
def execRes_6_mHL (s : State) : Result := resetBit .n6 .mHL s

/-- `RES 6,A` (R299). -/
def execRes_6_A (s : State) : Result := resetBit .n6 (.reg .a) s

/-- `RES 7,B` (R299). -/
def execRes_7_B (s : State) : Result := resetBit .n7 (.reg .b) s

/-- `RES 7,C` (R299). -/
def execRes_7_C (s : State) : Result := resetBit .n7 (.reg .c) s

/-- `RES 7,D` (R299). -/
def execRes_7_D (s : State) : Result := resetBit .n7 (.reg .d) s

/-- `RES 7,E` (R299). -/
def execRes_7_E (s : State) : Result := resetBit .n7 (.reg .e) s

/-- `RES 7,H` (R299). -/
def execRes_7_H (s : State) : Result := resetBit .n7 (.reg .h) s

/-- `RES 7,L` (R299). -/
def execRes_7_L (s : State) : Result := resetBit .n7 (.reg .l) s

/-- `RES 7,(HL)` (R300). -/
def execRes_7_mHL (s : State) : Result := resetBit .n7 .mHL s

/-- `RES 7,A` (R299). -/
def execRes_7_A (s : State) : Result := resetBit .n7 (.reg .a) s

/-- `SET 0,B` (R301). -/
def execSet_0_B (s : State) : Result := setBit .n0 (.reg .b) s

/-- `SET 0,C` (R301). -/
def execSet_0_C (s : State) : Result := setBit .n0 (.reg .c) s

/-- `SET 0,D` (R301). -/
def execSet_0_D (s : State) : Result := setBit .n0 (.reg .d) s

/-- `SET 0,E` (R301). -/
def execSet_0_E (s : State) : Result := setBit .n0 (.reg .e) s

/-- `SET 0,H` (R301). -/
def execSet_0_H (s : State) : Result := setBit .n0 (.reg .h) s

/-- `SET 0,L` (R301). -/
def execSet_0_L (s : State) : Result := setBit .n0 (.reg .l) s

/-- `SET 0,(HL)` (R302). -/
def execSet_0_mHL (s : State) : Result := setBit .n0 .mHL s

/-- `SET 0,A` (R301). -/
def execSet_0_A (s : State) : Result := setBit .n0 (.reg .a) s

/-- `SET 1,B` (R301). -/
def execSet_1_B (s : State) : Result := setBit .n1 (.reg .b) s

/-- `SET 1,C` (R301). -/
def execSet_1_C (s : State) : Result := setBit .n1 (.reg .c) s

/-- `SET 1,D` (R301). -/
def execSet_1_D (s : State) : Result := setBit .n1 (.reg .d) s

/-- `SET 1,E` (R301). -/
def execSet_1_E (s : State) : Result := setBit .n1 (.reg .e) s

/-- `SET 1,H` (R301). -/
def execSet_1_H (s : State) : Result := setBit .n1 (.reg .h) s

/-- `SET 1,L` (R301). -/
def execSet_1_L (s : State) : Result := setBit .n1 (.reg .l) s

/-- `SET 1,(HL)` (R302). -/
def execSet_1_mHL (s : State) : Result := setBit .n1 .mHL s

/-- `SET 1,A` (R301). -/
def execSet_1_A (s : State) : Result := setBit .n1 (.reg .a) s

/-- `SET 2,B` (R301). -/
def execSet_2_B (s : State) : Result := setBit .n2 (.reg .b) s

/-- `SET 2,C` (R301). -/
def execSet_2_C (s : State) : Result := setBit .n2 (.reg .c) s

/-- `SET 2,D` (R301). -/
def execSet_2_D (s : State) : Result := setBit .n2 (.reg .d) s

/-- `SET 2,E` (R301). -/
def execSet_2_E (s : State) : Result := setBit .n2 (.reg .e) s

/-- `SET 2,H` (R301). -/
def execSet_2_H (s : State) : Result := setBit .n2 (.reg .h) s

/-- `SET 2,L` (R301). -/
def execSet_2_L (s : State) : Result := setBit .n2 (.reg .l) s

/-- `SET 2,(HL)` (R302). -/
def execSet_2_mHL (s : State) : Result := setBit .n2 .mHL s

/-- `SET 2,A` (R301). -/
def execSet_2_A (s : State) : Result := setBit .n2 (.reg .a) s

/-- `SET 3,B` (R301). -/
def execSet_3_B (s : State) : Result := setBit .n3 (.reg .b) s

/-- `SET 3,C` (R301). -/
def execSet_3_C (s : State) : Result := setBit .n3 (.reg .c) s

/-- `SET 3,D` (R301). -/
def execSet_3_D (s : State) : Result := setBit .n3 (.reg .d) s

/-- `SET 3,E` (R301). -/
def execSet_3_E (s : State) : Result := setBit .n3 (.reg .e) s

/-- `SET 3,H` (R301). -/
def execSet_3_H (s : State) : Result := setBit .n3 (.reg .h) s

/-- `SET 3,L` (R301). -/
def execSet_3_L (s : State) : Result := setBit .n3 (.reg .l) s

/-- `SET 3,(HL)` (R302). -/
def execSet_3_mHL (s : State) : Result := setBit .n3 .mHL s

/-- `SET 3,A` (R301). -/
def execSet_3_A (s : State) : Result := setBit .n3 (.reg .a) s

/-- `SET 4,B` (R301). -/
def execSet_4_B (s : State) : Result := setBit .n4 (.reg .b) s

/-- `SET 4,C` (R301). -/
def execSet_4_C (s : State) : Result := setBit .n4 (.reg .c) s

/-- `SET 4,D` (R301). -/
def execSet_4_D (s : State) : Result := setBit .n4 (.reg .d) s

/-- `SET 4,E` (R301). -/
def execSet_4_E (s : State) : Result := setBit .n4 (.reg .e) s

/-- `SET 4,H` (R301). -/
def execSet_4_H (s : State) : Result := setBit .n4 (.reg .h) s

/-- `SET 4,L` (R301). -/
def execSet_4_L (s : State) : Result := setBit .n4 (.reg .l) s

/-- `SET 4,(HL)` (R302). -/
def execSet_4_mHL (s : State) : Result := setBit .n4 .mHL s

/-- `SET 4,A` (R301). -/
def execSet_4_A (s : State) : Result := setBit .n4 (.reg .a) s

/-- `SET 5,B` (R301). -/
def execSet_5_B (s : State) : Result := setBit .n5 (.reg .b) s

/-- `SET 5,C` (R301). -/
def execSet_5_C (s : State) : Result := setBit .n5 (.reg .c) s

/-- `SET 5,D` (R301). -/
def execSet_5_D (s : State) : Result := setBit .n5 (.reg .d) s

/-- `SET 5,E` (R301). -/
def execSet_5_E (s : State) : Result := setBit .n5 (.reg .e) s

/-- `SET 5,H` (R301). -/
def execSet_5_H (s : State) : Result := setBit .n5 (.reg .h) s

/-- `SET 5,L` (R301). -/
def execSet_5_L (s : State) : Result := setBit .n5 (.reg .l) s

/-- `SET 5,(HL)` (R302). -/
def execSet_5_mHL (s : State) : Result := setBit .n5 .mHL s

/-- `SET 5,A` (R301). -/
def execSet_5_A (s : State) : Result := setBit .n5 (.reg .a) s

/-- `SET 6,B` (R301). -/
def execSet_6_B (s : State) : Result := setBit .n6 (.reg .b) s

/-- `SET 6,C` (R301). -/
def execSet_6_C (s : State) : Result := setBit .n6 (.reg .c) s

/-- `SET 6,D` (R301). -/
def execSet_6_D (s : State) : Result := setBit .n6 (.reg .d) s

/-- `SET 6,E` (R301). -/
def execSet_6_E (s : State) : Result := setBit .n6 (.reg .e) s

/-- `SET 6,H` (R301). -/
def execSet_6_H (s : State) : Result := setBit .n6 (.reg .h) s

/-- `SET 6,L` (R301). -/
def execSet_6_L (s : State) : Result := setBit .n6 (.reg .l) s

/-- `SET 6,(HL)` (R302). -/
def execSet_6_mHL (s : State) : Result := setBit .n6 .mHL s

/-- `SET 6,A` (R301). -/
def execSet_6_A (s : State) : Result := setBit .n6 (.reg .a) s

/-- `SET 7,B` (R301). -/
def execSet_7_B (s : State) : Result := setBit .n7 (.reg .b) s

/-- `SET 7,C` (R301). -/
def execSet_7_C (s : State) : Result := setBit .n7 (.reg .c) s

/-- `SET 7,D` (R301). -/
def execSet_7_D (s : State) : Result := setBit .n7 (.reg .d) s

/-- `SET 7,E` (R301). -/
def execSet_7_E (s : State) : Result := setBit .n7 (.reg .e) s

/-- `SET 7,H` (R301). -/
def execSet_7_H (s : State) : Result := setBit .n7 (.reg .h) s

/-- `SET 7,L` (R301). -/
def execSet_7_L (s : State) : Result := setBit .n7 (.reg .l) s

/-- `SET 7,(HL)` (R302). -/
def execSet_7_mHL (s : State) : Result := setBit .n7 .mHL s

/-- `SET 7,A` (R301). -/
def execSet_7_A (s : State) : Result := setBit .n7 (.reg .a) s

end Sys2Proof.Machine
end

