-- ==== Sys2Proof/Machine/Control.lean ====
section
/-! DEFINITION. Control transfer (43_control.md, R250 to R260). The pc of the state a meaning is given is the address just past
the whole instruction. No flag is written. -/

namespace Sys2Proof.Machine

/-! ### The operations -/

/-- `pc <- t` (R250, R252, R253). -/
def jumpTo (cyc : Nat) (t : Word) (s : State) : Result := done cyc { s with pc := t }

/-- JP cc,a16: 16 cycles taken, 12 not taken (R251). -/
def jumpIf (cc : Cond) (t : Word) (s : State) : Result := if s.cond cc then jumpTo 16 t s else done 12 s

/-- JR cc,e8: 12 cycles taken, 8 not taken (R254). -/
def jumpRelIf (cc : Cond) (e : Byte) (s : State) : Result :=
  if s.cond cc then jumpTo 12 (s.pc + sext8 e) s else done 8 s

/-- `Push16(pc); pc <- t` (R255, R260). -/
def callTo (cyc : Nat) (t : Word) (s : State) : Result := done cyc { s.push16 s.pc with pc := t }

/-- CALL cc,a16: 24 cycles taken, 12 not taken (R256). -/
def callIf (cc : Cond) (t : Word) (s : State) : Result := if s.cond cc then callTo 24 t s else done 12 s

/-- `pc <- Pop16()` (R257). -/
def returnTo (cyc : Nat) (s : State) : Result := done cyc { s.popped with pc := s.popValue }

/-- RET cc: 20 cycles taken, 8 not taken (R258). -/
def returnIf (cc : Cond) (s : State) : Result := if s.cond cc then returnTo 20 s else done 8 s

/-! ### One meaning for each row -/

/-- `JR e8` (R253). -/
def execJr_e8 (e : Byte) (s : State) : Result := jumpTo 12 (s.pc + sext8 e) s

/-- `JR NZ,e8` (R254). -/
def execJr_NZ_e8 (e : Byte) (s : State) : Result := jumpRelIf .nz e s

/-- `JR Z,e8` (R254). -/
def execJr_Z_e8 (e : Byte) (s : State) : Result := jumpRelIf .z e s

/-- `JR NC,e8` (R254). -/
def execJr_NC_e8 (e : Byte) (s : State) : Result := jumpRelIf .nc e s

/-- `JR C,e8` (R254). -/
def execJr_C_e8 (e : Byte) (s : State) : Result := jumpRelIf .c e s

/-- `RET NZ` (R258). -/
def execRet_NZ (s : State) : Result := returnIf .nz s

/-- `JP NZ,a16` (R251). -/
def execJp_NZ_a16 (a : Word) (s : State) : Result := jumpIf .nz a s

/-- `JP a16` (R250). -/
def execJp_a16 (a : Word) (s : State) : Result := jumpTo 16 a s

/-- `CALL NZ,a16` (R256). -/
def execCall_NZ_a16 (a : Word) (s : State) : Result := callIf .nz a s

/-- `RST 0x00` (R260). -/
def execRst_00 (s : State) : Result := callTo 16 (rstTarget .n0) s

/-- `RET Z` (R258). -/
def execRet_Z (s : State) : Result := returnIf .z s

/-- `RET` (R257). -/
def execRet (s : State) : Result := returnTo 16 s

/-- `JP Z,a16` (R251). -/
def execJp_Z_a16 (a : Word) (s : State) : Result := jumpIf .z a s

/-- `CALL Z,a16` (R256). -/
def execCall_Z_a16 (a : Word) (s : State) : Result := callIf .z a s

/-- `CALL a16` (R255). -/
def execCall_a16 (a : Word) (s : State) : Result := callTo 24 a s

/-- `RST 0x08` (R260). -/
def execRst_08 (s : State) : Result := callTo 16 (rstTarget .n1) s

/-- `RET NC` (R258). -/
def execRet_NC (s : State) : Result := returnIf .nc s

/-- `JP NC,a16` (R251). -/
def execJp_NC_a16 (a : Word) (s : State) : Result := jumpIf .nc a s

/-- `CALL NC,a16` (R256). -/
def execCall_NC_a16 (a : Word) (s : State) : Result := callIf .nc a s

/-- `RST 0x10` (R260). -/
def execRst_10 (s : State) : Result := callTo 16 (rstTarget .n2) s

/-- `RET C` (R258). -/
def execRet_C (s : State) : Result := returnIf .c s

/-- `RETI` (R259). -/
def execReti (s : State) : Result := done 16 s.returnFromInterrupt

/-- `JP C,a16` (R251). -/
def execJp_C_a16 (a : Word) (s : State) : Result := jumpIf .c a s

/-- `CALL C,a16` (R256). -/
def execCall_C_a16 (a : Word) (s : State) : Result := callIf .c a s

/-- `RST 0x18` (R260). -/
def execRst_18 (s : State) : Result := callTo 16 (rstTarget .n3) s

/-- `RST 0x20` (R260). -/
def execRst_20 (s : State) : Result := callTo 16 (rstTarget .n4) s

/-- `JP HL` (R252). -/
def execJp_HL (s : State) : Result := jumpTo 4 s.hl s

/-- `RST 0x28` (R260). -/
def execRst_28 (s : State) : Result := callTo 16 (rstTarget .n5) s

/-- `RST 0x30` (R260). -/
def execRst_30 (s : State) : Result := callTo 16 (rstTarget .n6) s

/-- `RST 0x38` (R260). -/
def execRst_38 (s : State) : Result := callTo 16 (rstTarget .n7) s

end Sys2Proof.Machine
end

