-- ==== Sys2Proof/Machine/Loads.lean ====
section
/-! DEFINITION. Loads, stores and the stack (40_loads.md, R132 to R156). A meaning is the rule's Operation, run with pc past the
whole instruction and its immediates already fetched (R13, R23, log 2). No meaning of this file writes a flag but `POP AF`. -/

namespace Sys2Proof.Machine

/-! ### The operations -/

/-- `r8[y] <- r8[x]` (R132). -/
def loadReg (dst r : Reg8) (s : State) : Result := done 4 (s.setReg8 dst (s.reg8 r))

/-- `r8[y] <- MemRead(HL, 1)` (R133). -/
def loadRegMem (dst : Reg8) (s : State) : Result := done 8 (s.setReg8 dst (s.memRead s.hl))

/-- `MemWrite(HL, 1, r8[x])` (R134). -/
def loadMemReg (r : Reg8) (s : State) : Result := done 8 (s.memWrite s.hl (s.reg8 r))

/-- `r8[y] <- n` (R135). -/
def loadRegImm (dst : Reg8) (n : Byte) (s : State) : Result := done 8 (s.setReg8 dst n)

/-- `A <- MemRead(addr, 1)` (R137, R138, R145, R147, R149). -/
def loadAccum (cyc : Nat) (addr : Word) (s : State) : Result := done cyc { s with a := s.memRead addr }

/-- `MemWrite(addr, 1, A)` (R139, R140, R146, R148, R150). -/
def storeAccum (cyc : Nat) (addr : Word) (s : State) : Result := done cyc (s.memWrite addr s.a)

/-- `A <- MemRead(HL, 1)`, then HL stepped (R141, R142). -/
def loadAccumStep (delta : Word) (s : State) : Result :=
  let t := { s with a := s.memRead s.hl }
  done 8 (t.setHL (t.hl + delta))

/-- `MemWrite(HL, 1, A)`, then HL stepped (R143, R144). -/
def storeAccumStep (delta : Word) (s : State) : Result :=
  let t := s.memWrite s.hl s.a
  done 8 (t.setHL (t.hl + delta))

/-- `r16[p] <- n` (R151). -/
def loadPairImm (p : Reg16) (n : Word) (s : State) : Result := done 12 (s.setReg16 p n)

/-- `MemWrite(a, 1, SP[7:0]); MemWrite(a + 1, 1, SP[15:8])` (R152, D2, D35). -/
def storeSP (addr : Word) (s : State) : Result :=
  done 20 ((s.memWrite addr (loByte s.sp)).memWrite (addr + 1) (hiByte s.sp))

/-- `Push16(r16stk[p])` (R154). -/
def pushPair (p : Reg16Stk) (s : State) : Result := done 16 (s.push16 (s.reg16Stk p))

/-- `r16stk[p] <- Pop16()` (R155, R156). -/
def popPair (p : Reg16Stk) (s : State) : Result := done 12 (s.popped.setReg16Stk p s.popValue)

/-! ### One meaning for each row -/

/-- `LD BC,n16` (R151). -/
def execLd_BC_n16 (n : Word) (s : State) : Result := loadPairImm .bc n s

/-- `LD (BC),A` (R139). -/
def execLd_mBC_A (s : State) : Result := storeAccum 8 s.bc s

/-- `LD B,n8` (R135). -/
def execLd_B_n8 (n : Byte) (s : State) : Result := loadRegImm .b n s

/-- `LD (a16),SP` (R152). -/
def execLd_ma16_SP (a : Word) (s : State) : Result := storeSP a s

/-- `LD A,(BC)` (R137). -/
def execLd_A_mBC (s : State) : Result := loadAccum 8 s.bc s

/-- `LD C,n8` (R135). -/
def execLd_C_n8 (n : Byte) (s : State) : Result := loadRegImm .c n s

/-- `LD DE,n16` (R151). -/
def execLd_DE_n16 (n : Word) (s : State) : Result := loadPairImm .de n s

/-- `LD (DE),A` (R140). -/
def execLd_mDE_A (s : State) : Result := storeAccum 8 s.de s

/-- `LD D,n8` (R135). -/
def execLd_D_n8 (n : Byte) (s : State) : Result := loadRegImm .d n s

/-- `LD A,(DE)` (R138). -/
def execLd_A_mDE (s : State) : Result := loadAccum 8 s.de s

/-- `LD E,n8` (R135). -/
def execLd_E_n8 (n : Byte) (s : State) : Result := loadRegImm .e n s

/-- `LD HL,n16` (R151). -/
def execLd_HL_n16 (n : Word) (s : State) : Result := loadPairImm .hl n s

/-- `LD (HL+),A` (R143). -/
def execLd_mHLinc_A (s : State) : Result := storeAccumStep 1 s

/-- `LD H,n8` (R135). -/
def execLd_H_n8 (n : Byte) (s : State) : Result := loadRegImm .h n s

/-- `LD A,(HL+)` (R141). -/
def execLd_A_mHLinc (s : State) : Result := loadAccumStep 1 s

/-- `LD L,n8` (R135). -/
def execLd_L_n8 (n : Byte) (s : State) : Result := loadRegImm .l n s

/-- `LD SP,n16` (R151). -/
def execLd_SP_n16 (n : Word) (s : State) : Result := loadPairImm .sp n s

/-- `LD (HL-),A` (R144). -/
def execLd_mHLdec_A (s : State) : Result := storeAccumStep (-1) s

/-- `LD (HL),n8` (R136). -/
def execLd_mHL_n8 (n : Byte) (s : State) : Result := done 12 (s.memWrite s.hl n)

/-- `LD A,(HL-)` (R142). -/
def execLd_A_mHLdec (s : State) : Result := loadAccumStep (-1) s

/-- `LD A,n8` (R135). -/
def execLd_A_n8 (n : Byte) (s : State) : Result := loadRegImm .a n s

/-- `LD B,B` (R132). -/
def execLd_B_B (s : State) : Result := loadReg .b .b s

/-- `LD B,C` (R132). -/
def execLd_B_C (s : State) : Result := loadReg .b .c s

/-- `LD B,D` (R132). -/
def execLd_B_D (s : State) : Result := loadReg .b .d s

/-- `LD B,E` (R132). -/
def execLd_B_E (s : State) : Result := loadReg .b .e s

/-- `LD B,H` (R132). -/
def execLd_B_H (s : State) : Result := loadReg .b .h s

/-- `LD B,L` (R132). -/
def execLd_B_L (s : State) : Result := loadReg .b .l s

/-- `LD B,(HL)` (R133). -/
def execLd_B_mHL (s : State) : Result := loadRegMem .b s

/-- `LD B,A` (R132). -/
def execLd_B_A (s : State) : Result := loadReg .b .a s

/-- `LD C,B` (R132). -/
def execLd_C_B (s : State) : Result := loadReg .c .b s

/-- `LD C,C` (R132). -/
def execLd_C_C (s : State) : Result := loadReg .c .c s

/-- `LD C,D` (R132). -/
def execLd_C_D (s : State) : Result := loadReg .c .d s

/-- `LD C,E` (R132). -/
def execLd_C_E (s : State) : Result := loadReg .c .e s

/-- `LD C,H` (R132). -/
def execLd_C_H (s : State) : Result := loadReg .c .h s

/-- `LD C,L` (R132). -/
def execLd_C_L (s : State) : Result := loadReg .c .l s

/-- `LD C,(HL)` (R133). -/
def execLd_C_mHL (s : State) : Result := loadRegMem .c s

/-- `LD C,A` (R132). -/
def execLd_C_A (s : State) : Result := loadReg .c .a s

/-- `LD D,B` (R132). -/
def execLd_D_B (s : State) : Result := loadReg .d .b s

/-- `LD D,C` (R132). -/
def execLd_D_C (s : State) : Result := loadReg .d .c s

/-- `LD D,D` (R132). -/
def execLd_D_D (s : State) : Result := loadReg .d .d s

/-- `LD D,E` (R132). -/
def execLd_D_E (s : State) : Result := loadReg .d .e s

/-- `LD D,H` (R132). -/
def execLd_D_H (s : State) : Result := loadReg .d .h s

/-- `LD D,L` (R132). -/
def execLd_D_L (s : State) : Result := loadReg .d .l s

/-- `LD D,(HL)` (R133). -/
def execLd_D_mHL (s : State) : Result := loadRegMem .d s

/-- `LD D,A` (R132). -/
def execLd_D_A (s : State) : Result := loadReg .d .a s

/-- `LD E,B` (R132). -/
def execLd_E_B (s : State) : Result := loadReg .e .b s

/-- `LD E,C` (R132). -/
def execLd_E_C (s : State) : Result := loadReg .e .c s

/-- `LD E,D` (R132). -/
def execLd_E_D (s : State) : Result := loadReg .e .d s

/-- `LD E,E` (R132). -/
def execLd_E_E (s : State) : Result := loadReg .e .e s

/-- `LD E,H` (R132). -/
def execLd_E_H (s : State) : Result := loadReg .e .h s

/-- `LD E,L` (R132). -/
def execLd_E_L (s : State) : Result := loadReg .e .l s

/-- `LD E,(HL)` (R133). -/
def execLd_E_mHL (s : State) : Result := loadRegMem .e s

/-- `LD E,A` (R132). -/
def execLd_E_A (s : State) : Result := loadReg .e .a s

/-- `LD H,B` (R132). -/
def execLd_H_B (s : State) : Result := loadReg .h .b s

/-- `LD H,C` (R132). -/
def execLd_H_C (s : State) : Result := loadReg .h .c s

/-- `LD H,D` (R132). -/
def execLd_H_D (s : State) : Result := loadReg .h .d s

/-- `LD H,E` (R132). -/
def execLd_H_E (s : State) : Result := loadReg .h .e s

/-- `LD H,H` (R132). -/
def execLd_H_H (s : State) : Result := loadReg .h .h s

/-- `LD H,L` (R132). -/
def execLd_H_L (s : State) : Result := loadReg .h .l s

/-- `LD H,(HL)` (R133). -/
def execLd_H_mHL (s : State) : Result := loadRegMem .h s

/-- `LD H,A` (R132). -/
def execLd_H_A (s : State) : Result := loadReg .h .a s

/-- `LD L,B` (R132). -/
def execLd_L_B (s : State) : Result := loadReg .l .b s

/-- `LD L,C` (R132). -/
def execLd_L_C (s : State) : Result := loadReg .l .c s

/-- `LD L,D` (R132). -/
def execLd_L_D (s : State) : Result := loadReg .l .d s

/-- `LD L,E` (R132). -/
def execLd_L_E (s : State) : Result := loadReg .l .e s

/-- `LD L,H` (R132). -/
def execLd_L_H (s : State) : Result := loadReg .l .h s

/-- `LD L,L` (R132). -/
def execLd_L_L (s : State) : Result := loadReg .l .l s

/-- `LD L,(HL)` (R133). -/
def execLd_L_mHL (s : State) : Result := loadRegMem .l s

/-- `LD L,A` (R132). -/
def execLd_L_A (s : State) : Result := loadReg .l .a s

/-- `LD (HL),B` (R134). -/
def execLd_mHL_B (s : State) : Result := loadMemReg .b s

/-- `LD (HL),C` (R134). -/
def execLd_mHL_C (s : State) : Result := loadMemReg .c s

/-- `LD (HL),D` (R134). -/
def execLd_mHL_D (s : State) : Result := loadMemReg .d s

/-- `LD (HL),E` (R134). -/
def execLd_mHL_E (s : State) : Result := loadMemReg .e s

/-- `LD (HL),H` (R134). -/
def execLd_mHL_H (s : State) : Result := loadMemReg .h s

/-- `LD (HL),L` (R134). -/
def execLd_mHL_L (s : State) : Result := loadMemReg .l s

/-- `LD (HL),A` (R134). -/
def execLd_mHL_A (s : State) : Result := loadMemReg .a s

/-- `LD A,B` (R132). -/
def execLd_A_B (s : State) : Result := loadReg .a .b s

/-- `LD A,C` (R132). -/
def execLd_A_C (s : State) : Result := loadReg .a .c s

/-- `LD A,D` (R132). -/
def execLd_A_D (s : State) : Result := loadReg .a .d s

/-- `LD A,E` (R132). -/
def execLd_A_E (s : State) : Result := loadReg .a .e s

/-- `LD A,H` (R132). -/
def execLd_A_H (s : State) : Result := loadReg .a .h s

/-- `LD A,L` (R132). -/
def execLd_A_L (s : State) : Result := loadReg .a .l s

/-- `LD A,(HL)` (R133). -/
def execLd_A_mHL (s : State) : Result := loadRegMem .a s

/-- `LD A,A` (R132). -/
def execLd_A_A (s : State) : Result := loadReg .a .a s

/-- `POP BC` (R155). -/
def execPop_BC (s : State) : Result := popPair .bc s

/-- `PUSH BC` (R154). -/
def execPush_BC (s : State) : Result := pushPair .bc s

/-- `POP DE` (R155). -/
def execPop_DE (s : State) : Result := popPair .de s

/-- `PUSH DE` (R154). -/
def execPush_DE (s : State) : Result := pushPair .de s

/-- `LDH (a8),A` (R148). -/
def execLdh_ma8_A (a : Byte) (s : State) : Result := storeAccum 12 (highPage a) s

/-- `POP HL` (R155). -/
def execPop_HL (s : State) : Result := popPair .hl s

/-- `LD (C),A` (R150). -/
def execLd_mC_A (s : State) : Result := storeAccum 8 (highPage s.c) s

/-- `PUSH HL` (R154). -/
def execPush_HL (s : State) : Result := pushPair .hl s

/-- `LD (a16),A` (R146). -/
def execLd_ma16_A (a : Word) (s : State) : Result := storeAccum 16 a s

/-- `LDH A,(a8)` (R147). -/
def execLdh_A_ma8 (a : Byte) (s : State) : Result := loadAccum 12 (highPage a) s

/-- `POP AF` (R156). -/
def execPop_AF (s : State) : Result := popPair .af s

/-- `LD A,(C)` (R149). -/
def execLd_A_mC (s : State) : Result := loadAccum 8 (highPage s.c) s

/-- `PUSH AF` (R154). -/
def execPush_AF (s : State) : Result := pushPair .af s

/-- `LD SP,HL` (R153). -/
def execLd_SP_HL (s : State) : Result := done 8 { s with sp := s.hl }

/-- `LD A,(a16)` (R145). -/
def execLd_A_ma16 (a : Word) (s : State) : Result := loadAccum 16 a s

end Sys2Proof.Machine
end

