-- ==== Sys2Proof/Machine/System.lean ====
section
/-! DEFINITION. System instructions and the unrecognized bytes (45_system.md, R310 to R315). -/

namespace Sys2Proof.Machine

/-! ### The operation of an unrecognized byte -/

/-- `Illegal(p, op)`: the sticky fault is set with the address the byte was fetched from, which is pc - 1; pc stays past the
byte, nothing else is written, and no cycle count is returned (R315, R331, D34). The step that follows is `iterate`'s (log 5). -/
def decodeFault (op : Byte) (s : State) : Result := .next { s with fault := some { pc := s.pc - 1, byte := op } }

/-! ### One meaning for each row -/

/-- `NOP` (R310). -/
def execNop (s : State) : Result := done 4 s

/-- `STOP` (R312). -/
def execStop (_n : Byte) (s : State) : Result := done 4 s

/-- `HALT` (R311). -/
def execHalt (s : State) : Result := done 4 { s with halted := true }

/-- `(unrecognized 0xD3)` (R315). -/
def execUnrecognized_D3 (s : State) : Result := decodeFault 0xD3 s

/-- `(unrecognized 0xDB)` (R315). -/
def execUnrecognized_DB (s : State) : Result := decodeFault 0xDB s

/-- `(unrecognized 0xDD)` (R315). -/
def execUnrecognized_DD (s : State) : Result := decodeFault 0xDD s

/-- `(unrecognized 0xE3)` (R315). -/
def execUnrecognized_E3 (s : State) : Result := decodeFault 0xE3 s

/-- `(unrecognized 0xE4)` (R315). -/
def execUnrecognized_E4 (s : State) : Result := decodeFault 0xE4 s

/-- `(unrecognized 0xEB)` (R315). -/
def execUnrecognized_EB (s : State) : Result := decodeFault 0xEB s

/-- `(unrecognized 0xEC)` (R315). -/
def execUnrecognized_EC (s : State) : Result := decodeFault 0xEC s

/-- `(unrecognized 0xED)` (R315). -/
def execUnrecognized_ED (s : State) : Result := decodeFault 0xED s

/-- `DI` (R313). -/
def execDi (s : State) : Result := done 4 { s with diPending := true }

/-- `(unrecognized 0xF4)` (R315). -/
def execUnrecognized_F4 (s : State) : Result := decodeFault 0xF4 s

/-- `EI` (R314). -/
def execEi (s : State) : Result := done 4 { s with eiPending := true }

/-- `(unrecognized 0xFC)` (R315). -/
def execUnrecognized_FC (s : State) : Result := decodeFault 0xFC s

/-- `(unrecognized 0xFD)` (R315). -/
def execUnrecognized_FD (s : State) : Result := decodeFault 0xFD s

end Sys2Proof.Machine
end

