-- ==== Sys2Proof/Machine/Loop.lean ====
section
/-! DEFINITION. The execution loop (60_exceptions.md): Step with its fetch, the halted step and the deferred EI and DI; the timer
unit; RENDER's requests; the poll; and Iterate, which ties them together (R335 to R361). -/

namespace Sys2Proof.Machine

/-! ### Step (R359) -/

/-- The instruction whose bytes stand at pc, each byte read through MemRead (R56, R100). -/
def State.instrAtPc (s : State) : Instr :=
  decodeBytes (s.memRead s.pc) (s.memRead (s.pc + 1)) (s.memRead (s.pc + 2))

/-- pc past the whole instruction: the state its operation runs in (R23, R100; log 2). -/
def State.pastInstr (s : State) : State :=
  { s with pc := s.pc + BitVec.ofNat 16 (instrLength (s.memRead s.pc)) }

/-- ResolvePending(op), op the first opcode byte of the instruction just executed (R344, R345; log 15). -/
def State.resolvePending (s : State) (op : Byte) : State :=
  let s := if s.diPending = true ∧ op ≠ 0xF3 then { s with ime := false, diPending := false } else s
  if s.eiPending = true ∧ op ≠ 0xFB then { s with ime := true, eiPending := false } else s

/-- Fetch, decode, execute, and resolve the pending flags; a step that raised DecodeFault resolves nothing (R344, R359). -/
def fetchExecute (s : State) : Result :=
  match exec s.instrAtPc s.pastInstr with
  | .next t => .next (match t.fault with | none => t.resolvePending (s.memRead s.pc) | some _ => t)
  | .fault r => .fault r
  | .refused r => .refused r

/-- Step() (R359): a halted core with nothing pending takes a 4-cycle step that fetches nothing; one with something pending
wakes and executes in the same step, whatever `ime` is (R361, D24). -/
def coreStep (s : State) : Result :=
  if s.halted = true then
    if s.pendingMask = 0 then done 4 s else fetchExecute { s with halted := false }
  else fetchExecute s

/-! ### The timer unit (R335 to R337) -/

/-- The divider (R336). -/
def State.tickDivider (s : State) (cyc : Nat) : State := { s with divCounter := s.divCounter + BitVec.ofNat 16 cyc }

/-- The timer (R337): TIMA, TMA and TAC are read and written directly, with no bus effect. -/
def State.tickTimer (s : State) (cyc : Nat) : State :=
  let tac := s.winByte addrTAC
  if tac.getLsbD 2 then
    if s.timerCounter - cyc ≤ 0 then
      let s := { s with timerCounter := timerPeriod tac }
      if s.winByte addrTIMA = 0xFF then (s.setWin addrTIMA (s.winByte addrTMA)).request .timer
      else s.setWin addrTIMA (s.winByte addrTIMA + 1)
    else { s with timerCounter := s.timerCounter - cyc }
  else s

/-- Tick(c): the divider, then the timer (R335). -/
def State.tick (s : State) (cyc : Nat) : State := (s.tickDivider cyc).tickTimer cyc

/-! ### RENDER and the poll (R350, R351) -/

/-- Request(n) for each source RENDER returned (R350, R360). -/
def State.applyAnswer (s : State) (ans : RenderAnswer) : State :=
  let s := if ans.vblank then s.request .vblank else s
  if ans.lcdStat then s.request .lcdStat else s

/-- RENDER's next answer: the script's head, and nothing requested once it is exhausted (log 4). -/
def State.nextAnswer (s : State) : RenderAnswer := s.renderScript.headD { vblank := false, lcdStat := false }

/-- The script after that answer. -/
def State.dropAnswer (s : State) : State := { s with renderScript := s.renderScript.tail }

/-- Poll() (R351). -/
def State.poll (s : State) : State :=
  if s.ime then
    match lowestSource s.pendingMask with
    | some n => s.service n
    | none => s
  else s

/-! ### Iterate (R360) -/

/-- What follows a ticked step: RENDER's requests, the poll, and the frame's cycle count. -/
def State.settle (s : State) (ans : RenderAnswer) : State :=
  let t := (s.applyAnswer ans).poll
  { t with frameCycles := t.frameCycles + s.stepCycles }

/-- The rest of an iteration after its step: tick, RENDER, poll, count. A step that faulted ends the iteration at once. -/
def State.afterStep (s : State) : State :=
  match s.fault with
  | some _ => s
  | none =>
    let t := s.tick s.stepCycles
    t.dropAnswer.settle t.nextAnswer

/-- Iterate() (R360), one loop iteration. From a faulted state there is none. -/
def iterate (s : State) : Result :=
  match s.fault with
  | some r => .fault (.decodeFault r.pc r.byte)
  | none =>
    match coreStep s with
    | .next t => .next t.afterStep
    | .fault r => .fault r
    | .refused r => .refused r

/-! ### The same loop under a RENDER given as a function (R350, D31) -/

/-- RENDER as R350 gives it: a function of its own hidden state, the cycle count and a read-only view of the bus, which answers
the sources it requests and its next hidden state. -/
abbrev Renderer := Nat → Nat → (Word → Byte) → RenderAnswer × Nat

/-- One loop iteration with RENDER's answer taken from a function, not from the script. -/
def iterateUnder (render : Renderer) (x : State × Nat) : Host.Outcome (State × Nat) Fault Refusal :=
  match x.1.fault with
  | some r => .fault (.decodeFault r.pc r.byte)
  | none =>
    match coreStep x.1 with
    | .next t =>
      match t.fault with
      | some _ => .next (t, x.2)
      | none =>
        let u := t.tick t.stepCycles
        let ans := render x.2 u.stepCycles u.memRead
        .next (u.settle ans.1, ans.2)
    | .fault r => .fault r
    | .refused r => .refused r

/-- k iterations under a RENDER. -/
def runUnder (render : Renderer) : Nat → State × Nat → Host.Outcome (State × Nat) Fault Refusal
  | 0, x => .next x
  | k + 1, x =>
    match iterateUnder render x with
    | .next y => runUnder render k y
    | .fault r => .fault r
    | .refused r => .refused r

end Sys2Proof.Machine
end

