-- ==== Sys2Proof/Machine/Ports.lean ====
section
/-! DEFINITION. The host's ports (R364): cartridge load and power-on, the frame call, the keys; and placing an instruction where
the next step fetches it. The host acts between iterations only (R54, R360). -/

namespace Sys2Proof.Machine

/-! ### Cartridge load (R58, R332, R379) -/

/-- The image's bytes at rising addresses from n, in canonical form: 0x00 is what an unlisted cartridge byte reads as. -/
def imageCells : Nat → List Byte → Memory
  | _, [] => []
  | n, v :: rest => if v = Storage.unlisted .cart n then imageCells (n + 1) rest else (n, v) :: imageCells (n + 1) rest

/-- Power-on with the cartridge image loaded (R370 to R379): `CART` is the image followed by 0x00, and its byte 0x0147 selects
the controller (R58). -/
def State.powerOn (image : List Byte) : State :=
  let s := { State.reset with cart := imageCells 0 image }
  { s with mbc := mbcOfType (s.cartByte 0x0147) }

/-- Why a load is rejected (R332, log 12). -/
inductive LoadError
  | imageTooLong
deriving DecidableEq, Repr

/-- The load path, which fails closed: an image longer than the buffer is rejected before power-on (R332, D5, log 12). -/
def loadCartridge (image : List Byte) : Except LoadError State :=
  if image.length ≤ Config.cartSize then .ok (State.powerOn image) else .error .imageTooLong

/-! ### The keys (R346 to R348, D27) -/

/-- The eight keys, by their codes 0 to 7. -/
inductive Key
  | right
  | left
  | up
  | down
  | a
  | b
  | select
  | start
deriving DecidableEq, Repr

/-- The key's bit in joy_latch. -/
def Key.mask : Key → Byte
  | .right => 0x01
  | .left => 0x02
  | .up => 0x04
  | .down => 0x08
  | .a => 0x10
  | .b => 0x20
  | .select => 0x40
  | .start => 0x80

/-- The select bit of P1 that gives the key's class: 4 for the directions, 5 for the buttons. -/
def Key.selectBit : Key → Nat
  | .right | .left | .up | .down => 4
  | .a | .b | .select | .start => 5

/-- key_pressed(k) (R347; log 11). -/
def State.keyPressed (s : State) (k : Key) : State :=
  let wasReleased := s.joyLatch &&& k.mask != 0
  let t := { s with joyLatch := s.joyLatch &&& ~~~k.mask }
  if wasReleased && !(s.winByte addrP1).getLsbD k.selectBit then t.request .joypad else t

/-- key_released(k) (R348). -/
def State.keyReleased (s : State) (k : Key) : State := { s with joyLatch := s.joyLatch ||| k.mask }

/-- A queued host event (R364). -/
inductive KeyEvent
  | pressed (k : Key)
  | released (k : Key)
deriving DecidableEq, Repr

/-- Applying the queued events, oldest first, between two frame calls (R364). -/
def State.applyKeys (s : State) : List KeyEvent → State
  | [] => s
  | .pressed k :: rest => (s.keyPressed k).applyKeys rest
  | .released k :: rest => (s.keyReleased k).applyKeys rest

/-! ### The frame call (R363, D30, D40) -/

/-- RunFrame's loop, at most `fuel` iterations of it. -/
def frameLoop (budget : Nat) : Nat → State → Result
  | 0, s => .next s
  | fuel + 1, s =>
    if s.frameCycles ≤ budget ∧ s.fault = none then
      match iterate s with
      | .next t => frameLoop budget fuel t
      | .fault r => .fault r
      | .refused r => .refused r
    else .next s

/-- RunFrame() with the budget FRAME_CYCLES given. Every iteration that does not fault costs at least 4 cycles, so the loop ends
within budget / 4 + 1 iterations (log 10). -/
def runFrameWith (budget : Nat) (s : State) : Result := frameLoop budget (budget / 4 + 1) { s with frameCycles := 0 }

/-- RunFrame() (R363). -/
def runFrame (s : State) : Result := runFrameWith Config.frameCycles s

/-! ### Placing an instruction (log 6) -/

/-- The byte that MemRead(addr, 1) gives can be set by setting one storage cell: every address but 0xFF00 and 0xFF04, which
are computed, the external RAM while it is disabled, and a cartridge index past the buffer. -/
def State.storable (s : State) (addr : Word) : Bool :=
  if addr.toNat ≤ 0x7FFF then decide (s.romIndex addr < Config.cartSize)
  else if 0xA000 ≤ addr.toNat ∧ addr.toNat ≤ 0xBFFF then s.ramEnabled
  else addr != addrP1 && addr != addrDIV

/-- Set the storage cell that a storable address reads. -/
def State.placeByte (s : State) (addr : Word) (v : Byte) : State :=
  if addr.toNat ≤ 0x7FFF then { s with cart := Memory.write .cart s.cart (s.romIndex addr) v }
  else if 0xA000 ≤ addr.toNat ∧ addr.toNat ≤ 0xBFFF then s.setEram (s.eramIndex addr) v
  else if 0xE000 ≤ addr.toNat ∧ addr.toNat ≤ 0xFDFF then s.setWin (addr - 0x2000) v
  else s.setWin addr v

/-- Three bytes at pc, in a state whose next step fetches them: not halted and not faulted; and where one of the three
addresses is not storable, with pc at 0xC000 in work RAM first. -/
def State.placeAtPc (s : State) (b0 b1 b2 : Byte) : State :=
  let s := { s with halted := false, fault := none }
  let s :=
    if s.storable s.pc && s.storable (s.pc + 1) && s.storable (s.pc + 2) then s else { s with pc := 0xC000 }
  ((s.placeByte s.pc b0).placeByte (s.pc + 1) b1).placeByte (s.pc + 2) b2

end Sys2Proof.Machine
end

