-- ==== Sys2Proof/Machine/Step.lean ====
section
/-! DEFINITION. One step of the machine, and the state in which the next step runs a given instruction. -/

namespace Sys2Proof.Machine

/-- One step: one loop iteration, Iterate of R360 (log 1). -/
def step (s : State) : Host.Outcome State Fault Refusal := iterate s

/-- The state `s` with the instruction of an opcode-table word placed where the next step fetches it (log 6, log 7). -/
def State.withFetchWord (s : State) (nbits w : Nat) : State :=
  match tableBytes nbits w with
  | (b0, b1, b2) => s.placeAtPc b0 b1 b2

end Sys2Proof.Machine
end

