-- ==== Sys2Proof/Safety.lean ====
section
/-! DEFINITION. What a legal state is, and the terms in which statements speak of the machine: the flag byte written out, the
addresses an instruction stores to, the cell a store lands in, the flags an instruction writes, and the instructions that
transfer control or write SP. -/

namespace Sys2Proof.Machine

/-! ### Legal states -/

/-- The ROM bank values of R40 for each controller. -/
def Mbc.legalRomBank : Mbc → Byte → Prop
  | .noController, v => v = 1
  | .mbc1, v => 1 ≤ v.toNat ∧ v.toNat ≤ 0x7F
  | .mbc2, v => 1 ≤ v.toNat ∧ v.toNat ≤ 0x0F

/-- What holds between two loop iterations of every run from power-on: the legal values of R26, R36 and R40, the controller of
R58, the states of R343, and the canonical form of the three arrays. -/
structure State.Inv (s : State) : Prop where
  /-- F's lower nibble is 0 (R24, R26). -/
  flagNibble : s.f &&& 0x0F = 0
  winForm : Memory.wf .win s.win
  eramForm : Memory.wf .eram s.eram
  cartForm : Memory.wf .cart s.cart
  /-- The controller is the one that CART[0x0147] selects (R58). -/
  controller : s.mbc = mbcOfType (s.cartByte 0x0147)
  romBankLegal : s.mbc.legalRomBank s.romBank
  /-- Only MBC1 has a RAM bank, and only in RAM-banking mode (R63, R64, D9, D10). -/
  ramBankZero : s.mbc ≠ .mbc1 ∨ s.romBankingMode = true → s.ramBank = 0
  /-- Without a controller external RAM stays disabled, and only MBC1 leaves ROM-banking mode (R60, R61, R64). -/
  noControllerRam : s.mbc = .noController → s.ramEnabled = false
  romModeFixed : s.mbc ≠ .mbc1 → s.romBankingMode = true
  /-- The countdown between iterations (R36, R338). -/
  countdown : 1 ≤ s.timerCounter ∧ s.timerCounter ≤ 1024
  /-- EI and DI are never both pending (R343). -/
  onePending : ¬(s.eiPending = true ∧ s.diPending = true)
  /-- A recorded fault names an unrecognized byte, and pc is one past its address (R315, R331). -/
  faultRecord : ∀ r, s.fault = some r → s.pc = r.pc + 1 ∧ (decodeBytes r.byte 0 0).unrecognized = true

/-- A step is taken from here: nothing has faulted (R12, R360). -/
def State.live (s : State) : Prop := s.fault = none

/-! ### The flag byte -/

/-- The byte with Z, N, H and C in bits 7, 6, 5 and 4 and zeros below (R24). -/
def flagByte (z n h c : Bool) : Byte :=
  (if z then 0x80 else 0) ||| (if n then 0x40 else 0) ||| (if h then 0x20 else 0) ||| (if c then 0x10 else 0)

/-- Bit 7 of F (R24). -/
def State.flagZ (s : State) : Bool := s.f.getLsbD 7

/-- Bit 6 of F (R24). -/
def State.flagN (s : State) : Bool := s.f.getLsbD 6

/-- Bit 5 of F (R24). -/
def State.flagH (s : State) : Bool := s.f.getLsbD 5

/-- Bit 4 of F (R24). -/
def State.flagC (s : State) : Bool := s.f.getLsbD 4

/-! ### Stores -/

/-- The index of WIN that a store to an address writes (R51, R57): the address itself in 0x8000-0x9FFF, 0xC000-0xDFFF,
0xFE00-0xFE9F and 0xFEFF-0xFFFF but 0xFF04, the address less 0x2000 in the echo region, and none elsewhere. -/
def winCell (a : Word) : Option Nat :=
  if a.toNat < 0x8000 then none
  else if a.toNat < 0xA000 then some a.toNat
  else if a.toNat < 0xC000 then none
  else if a.toNat < 0xE000 then some a.toNat
  else if a.toNat < 0xFE00 then some (a.toNat - 0x2000)
  else if a.toNat < 0xFEA0 then some a.toNat
  else if a.toNat < 0xFEFF then none
  else if a = 0xFF04 then none
  else some a.toNat

/-- The index of ERAM that a store to an address writes while external RAM is enabled (R60). -/
def State.eramCell (s : State) (a : Word) : Option Nat :=
  if s.ramEnabled = true ∧ 0xA000 ≤ a.toNat ∧ a.toNat < 0xC000 then some ((a.toNat - 0xA000) + s.ramBank.toNat * 0x2000)
  else none

/-- Two names of one byte: the address below which an echo address stands (R65). -/
def echoBase (a : Word) : Word := if 0xE000 ≤ a.toNat ∧ a.toNat < 0xFE00 then a - 0x2000 else a

/-- A WIN index behind no readable or writable address: the ROM and external RAM windows, the echo region and 0xFF04 (R33, R60,
R65), and the restricted bytes, which nothing stores to (R67). -/
abbrev hiddenCell (n : Nat) : Prop :=
  n < 0x8000 ∨ (0xA000 ≤ n ∧ n < 0xC000) ∨ (0xE000 ≤ n ∧ n < 0xFE00) ∨ (0xFEA0 ≤ n ∧ n < 0xFEFF) ∨ n = 0xFF04

/-- A store to this address stores exactly its byte, and a read of it gives the byte stored: neither computed, gated, mapped nor
discarded (R51). -/
abbrev plainAddr (a : Word) : Prop :=
  (0x8000 ≤ a.toNat ∧ a.toNat < 0xA000) ∨ (0xC000 ≤ a.toNat ∧ a.toNat < 0xFEA0) ∨ a.toNat = 0xFEFF ∨
    (0xFF00 < a.toNat ∧ a.toNat ≠ 0xFF04)

/-! ### Conditions, operands and shifts, as the rules write them -/

/-- The condition table of R110: cc[1] selects C or Z, and cc[0] is the value the flag must have. -/
def State.condHolds (s : State) (cc : Cond) : Bool :=
  (if cc.index.getLsbD 1 then s.flagC else s.flagZ) == cc.index.getLsbD 0

/-- The operand of an accumulator operation and its cycle count (R185): a register (4), the byte at HL (8), an immediate (8). -/
def State.aluOperandIs (s : State) (src : AluSrc) (v : Byte) (cycles : Nat) : Prop :=
  (∃ r, src = .loc (.reg r) ∧ v = s.reg8 r ∧ cycles = 4) ∨ (src = .loc .mHL ∧ v = s.memRead s.hl ∧ cycles = 8) ∨
    (src = .imm v ∧ cycles = 8)

/-- The encoding of an accumulator operation: `10yyyxxx` with an r8 operand, `11yyy110 n8` with an immediate (R112, R113). -/
def aluEncoding (op : AluOp) : AluSrc → List Byte
  | .loc x => [0b10#2 ++ op.index ++ x.index]
  | .imm n => [0b11#2 ++ op.index ++ 0b110#3, n]

/-- The result of a rotate or shift of v, and its bit c, by R281 to R296, for a carry flag c0 before it. -/
def rotateSpec (op : RotOp) (v : Byte) (c0 : Bool) : Byte × Bool :=
  match op with
  | .rlc => (v.rotateLeft 1, v.getLsbD 7)
  | .rrc => (v.rotateRight 1, v.getLsbD 0)
  | .rl => (BitVec.ofNat 8 (v.toNat * 2 + c0.toNat), v.getLsbD 7)
  | .rr => (BitVec.ofNat 8 (v.toNat / 2 + 128 * c0.toNat), v.getLsbD 0)
  | .sla => (BitVec.ofNat 8 (v.toNat * 2), v.getLsbD 7)
  | .sra => (BitVec.ofInt 8 (v.toInt / 2), v.getLsbD 0)
  | .swap => (v.rotateLeft 4, false)
  | .srl => (BitVec.ofNat 8 (v.toNat / 2), v.getLsbD 0)

/-- A store to this address reads back: plain storage, or external RAM while it is enabled (R131). -/
def State.readsBack (s : State) (a : Word) : Prop :=
  plainAddr a ∨ (s.ramEnabled = true ∧ 0xA000 ≤ a.toNat ∧ a.toNat < 0xC000)

/-- The instruction's bytes stand at pc, each as MemRead gives it (R100). -/
def State.holdsAtPc (s : State) (i : Instr) : Prop :=
  ∀ k (h : k < (encode i).length), s.memRead (s.pc + BitVec.ofNat 16 k) = (encode i)[k]

end Sys2Proof.Machine

namespace Sys2Proof

open Machine

/-! ### Classes of instructions -/

/-- The addresses an instruction stores to, in the order of its rule, from the state its meaning is given: the same expressions
the meanings use. An instruction that stores nothing has none. -/
def Instr.storeAddrs (i : Instr) (s : State) : List Word :=
  match i with
  | .ld_mHL_B | .ld_mHL_C | .ld_mHL_D | .ld_mHL_E | .ld_mHL_H | .ld_mHL_L | .ld_mHL_A => [s.hl]
  | .ld_mHL_n8 _ | .ld_mHLinc_A | .ld_mHLdec_A | .inc_mHL | .dec_mHL => [s.hl]
  | .rlc_mHL | .rrc_mHL | .rl_mHL | .rr_mHL | .sla_mHL | .sra_mHL | .swap_mHL | .srl_mHL => [s.hl]
  | .res_0_mHL | .res_1_mHL | .res_2_mHL | .res_3_mHL | .res_4_mHL | .res_5_mHL | .res_6_mHL | .res_7_mHL => [s.hl]
  | .set_0_mHL | .set_1_mHL | .set_2_mHL | .set_3_mHL | .set_4_mHL | .set_5_mHL | .set_6_mHL | .set_7_mHL => [s.hl]
  | .ld_mBC_A => [s.bc]
  | .ld_mDE_A => [s.de]
  | .ld_ma16_A a => [a]
  | .ldh_ma8_A n => [highPage n]
  | .ld_mC_A => [highPage s.c]
  | .ld_ma16_SP a => [a, a + 1]
  | .push_BC | .push_DE | .push_HL | .push_AF => [s.sp - 1, s.sp - 2]
  | .call_a16 _ => [s.sp - 1, s.sp - 2]
  | .call_NZ_a16 _ => if s.cond .nz then [s.sp - 1, s.sp - 2] else []
  | .call_Z_a16 _ => if s.cond .z then [s.sp - 1, s.sp - 2] else []
  | .call_NC_a16 _ => if s.cond .nc then [s.sp - 1, s.sp - 2] else []
  | .call_C_a16 _ => if s.cond .c then [s.sp - 1, s.sp - 2] else []
  | .rst_00 | .rst_08 | .rst_10 | .rst_18 | .rst_20 | .rst_28 | .rst_30 | .rst_38 => [s.sp - 1, s.sp - 2]
  | _ => []

/-- Bits z, n, h and c as one byte mask: the flags an instruction writes, from the fields fam, y and x of its opcode byte (R104)
and the Flags lines of the instruction rules (R27). The rotates write all four, BIT keeps C, RES and SET write none; the
accumulator operations write all four; INC and DEC of a byte keep C; ADD HL keeps Z; the accumulator rotates write all four;
DAA keeps N; CPL keeps Z and C; SCF and CCF keep Z; POP AF, ADD SP and LD HL,SP+e8 write all four; every other instruction
writes none. -/
def Instr.flagsWritten (i : Instr) : Byte :=
  match encode i with
  | [] => 0x00
  | b0 :: rest =>
    if b0 = 0xCB then
      (match (rest.headD 0).extractLsb' 6 2 with
       | 0 => 0xF0
       | 1 => 0xE0
       | _ => 0x00)
    else
      match b0.extractLsb' 6 2, b0.extractLsb' 0 3 with
      | 0, 4 => 0xE0
      | 0, 5 => 0xE0
      | 0, 1 => if b0.getLsbD 3 then 0x70 else 0x00
      | 0, 7 => if b0 = 0x27 then 0xB0 else if b0 = 0x2F then 0x60 else if b0 = 0x37 ∨ b0 = 0x3F then 0x70 else 0xF0
      | 2, _ => 0xF0
      | 3, 6 => 0xF0
      | _, _ => if b0 = 0xF1 ∨ b0 = 0xE8 ∨ b0 = 0xF8 then 0xF0 else 0x00

/-- The instructions of 43_control.md, which may write pc. -/
def Instr.transfersControl : Instr → Bool
  | .jr_e8 _ | .jr_NZ_e8 _ | .jr_Z_e8 _ | .jr_NC_e8 _ | .jr_C_e8 _ => true
  | .jp_a16 _ | .jp_NZ_a16 _ | .jp_Z_a16 _ | .jp_NC_a16 _ | .jp_C_a16 _ | .jp_HL => true
  | .call_a16 _ | .call_NZ_a16 _ | .call_Z_a16 _ | .call_NC_a16 _ | .call_C_a16 _ => true
  | .ret | .reti | .ret_NZ | .ret_Z | .ret_NC | .ret_C => true
  | .rst_00 | .rst_08 | .rst_10 | .rst_18 | .rst_20 | .rst_28 | .rst_30 | .rst_38 => true
  | _ => false

/-- The instructions that may write SP (R22). -/
def Instr.writesSP : Instr → Bool
  | .ld_SP_n16 _ | .ld_SP_HL | .inc_SP | .dec_SP | .add_SP_e8 _ => true
  | .push_BC | .push_DE | .push_HL | .push_AF | .pop_BC | .pop_DE | .pop_HL | .pop_AF => true
  | .call_a16 _ | .call_NZ_a16 _ | .call_Z_a16 _ | .call_NC_a16 _ | .call_C_a16 _ => true
  | .ret | .reti | .ret_NZ | .ret_Z | .ret_NC | .ret_C => true
  | .rst_00 | .rst_08 | .rst_10 | .rst_18 | .rst_20 | .rst_28 | .rst_30 | .rst_38 => true
  | _ => false

end Sys2Proof
end

