-- ==== Sys2Proof/Certificates/Slice0/Obligations.lean ====
section
/-! DEFINITION. The statements for the provers, each the formal text of what OBLIGATIONS.json says in words. -/

section

open Sys2Proof Sys2Proof.Machine

/-- O1. LD r,r' and LD r,(HL) and LD r,n8: encodings, results, cycles, and nothing else changes. Rules: R132; R133; R135. -/
def Obligations.LoadRegister : Prop :=
  ∀ (dst src : Reg8) (n : Byte) (s : State),
    (encode (.ldReg dst src) = [0b01#2 ++ dst.index ++ src.index] ∧
      exec (.ldReg dst src) s = .next { s.setReg8 dst (s.reg8 src) with stepCycles := 4 }) ∧
    (encode (.ldRegMem dst) = [0b01#2 ++ dst.index ++ 0b110#3] ∧
      exec (.ldRegMem dst) s = .next { s.setReg8 dst (s.memRead s.hl) with stepCycles := 8 }) ∧
    (encode (.ldRegImm dst n) = [0b00#2 ++ dst.index ++ 0b110#3, n] ∧
      exec (.ldRegImm dst n) s = .next { s.setReg8 dst n with stepCycles := 8 })

/-- O2. LD (HL),r and LD (HL),n8: encodings, one bus write at HL, cycles, and nothing else changes. Rules: R134; R136. -/
def Obligations.StoreByte : Prop :=
  ∀ (r : Reg8) (n : Byte) (s : State),
    (encode (.ldMemReg r) = [0b01110#5 ++ r.index] ∧
      exec (.ldMemReg r) s = .next { s.memWrite s.hl (s.reg8 r) with stepCycles := 8 }) ∧
    (encode (.ld_mHL_n8 n) = [0x36, n] ∧
      exec (.ld_mHL_n8 n) s = .next { s.memWrite s.hl n with stepCycles := 12 })

/-- O3. LD A from (BC), (DE), (a16), 0xFF00 + a8 and 0xFF00 + C. Rules: R137; R138; R145; R147; R149. -/
def Obligations.AccumulatorLoads : Prop :=
  ∀ (a : Word) (n : Byte) (s : State),
    (encode .ld_A_mBC = [0x0A] ∧ exec .ld_A_mBC s = .next { s with a := s.memRead (s.b ++ s.c), stepCycles := 8 }) ∧
    (encode .ld_A_mDE = [0x1A] ∧ exec .ld_A_mDE s = .next { s with a := s.memRead (s.d ++ s.e), stepCycles := 8 }) ∧
    (encode (.ld_A_ma16 a) = [0xFA, a.extractLsb' 0 8, a.extractLsb' 8 8] ∧
      exec (.ld_A_ma16 a) s = .next { s with a := s.memRead a, stepCycles := 16 }) ∧
    (encode (.ldh_A_ma8 n) = [0xF0, n] ∧
      exec (.ldh_A_ma8 n) s = .next { s with a := s.memRead (BitVec.ofNat 16 (0xFF00 + n.toNat)), stepCycles := 12 }) ∧
    (encode .ld_A_mC = [0xF2] ∧
      exec .ld_A_mC s = .next { s with a := s.memRead (BitVec.ofNat 16 (0xFF00 + s.c.toNat)), stepCycles := 8 })

/-- O4. LD (BC),A, LD (DE),A, LD (a16),A, LDH (a8),A and LD (C),A: one bus write of A. Rules: R139; R140; R146; R148; R150. -/
def Obligations.AccumulatorStores : Prop :=
  ∀ (a : Word) (n : Byte) (s : State),
    (encode .ld_mBC_A = [0x02] ∧ exec .ld_mBC_A s = .next { s.memWrite (s.b ++ s.c) s.a with stepCycles := 8 }) ∧
    (encode .ld_mDE_A = [0x12] ∧ exec .ld_mDE_A s = .next { s.memWrite (s.d ++ s.e) s.a with stepCycles := 8 }) ∧
    (encode (.ld_ma16_A a) = [0xEA, a.extractLsb' 0 8, a.extractLsb' 8 8] ∧
      exec (.ld_ma16_A a) s = .next { s.memWrite a s.a with stepCycles := 16 }) ∧
    (encode (.ldh_ma8_A n) = [0xE0, n] ∧
      exec (.ldh_ma8_A n) s = .next { s.memWrite (BitVec.ofNat 16 (0xFF00 + n.toNat)) s.a with stepCycles := 12 }) ∧
    (encode .ld_mC_A = [0xE2] ∧
      exec .ld_mC_A s = .next { s.memWrite (BitVec.ofNat 16 (0xFF00 + s.c.toNat)) s.a with stepCycles := 8 })

/-- O5. LD A,(HL+), LD A,(HL-), LD (HL+),A and LD (HL-),A: the access at the old HL, then HL stepped. Rests on: 40_loads.md
section 3 (R141 to R144); 92_eei_decisions.md D3. -/
def Obligations.AccumulatorStepping : Prop :=
  ∀ s : State,
    (encode .ld_A_mHLinc = [0x2A] ∧
      exec .ld_A_mHLinc s = .next
        { s with a := s.memRead s.hl, h := (s.hl + 1).extractLsb' 8 8, l := (s.hl + 1).extractLsb' 0 8, stepCycles := 8 }) ∧
    (encode .ld_A_mHLdec = [0x3A] ∧
      exec .ld_A_mHLdec s = .next
        { s with a := s.memRead s.hl, h := (s.hl - 1).extractLsb' 8 8, l := (s.hl - 1).extractLsb' 0 8, stepCycles := 8 }) ∧
    (encode .ld_mHLinc_A = [0x22] ∧
      exec .ld_mHLinc_A s = .next
        { s.memWrite s.hl s.a with
          h := (s.hl + 1).extractLsb' 8 8, l := (s.hl + 1).extractLsb' 0 8, stepCycles := 8 }) ∧
    (encode .ld_mHLdec_A = [0x32] ∧
      exec .ld_mHLdec_A s = .next
        { s.memWrite s.hl s.a with
          h := (s.hl - 1).extractLsb' 8 8, l := (s.hl - 1).extractLsb' 0 8, stepCycles := 8 })

/-- O6. LD rr,n16 and LD SP,HL: both halves of the pair, 12 and 8 cycles. Rules: R151; R153. -/
def Obligations.PairLoads : Prop :=
  ∀ (p : Reg16) (n : Word) (s : State),
    encode (.ldR16 p n) = [0b00#2 ++ p.index ++ 0b0001#4, n.extractLsb' 0 8, n.extractLsb' 8 8] ∧
    exec (.ld_BC_n16 n) s = .next { s with b := n.extractLsb' 8 8, c := n.extractLsb' 0 8, stepCycles := 12 } ∧
    exec (.ld_DE_n16 n) s = .next { s with d := n.extractLsb' 8 8, e := n.extractLsb' 0 8, stepCycles := 12 } ∧
    exec (.ld_HL_n16 n) s = .next { s with h := n.extractLsb' 8 8, l := n.extractLsb' 0 8, stepCycles := 12 } ∧
    exec (.ld_SP_n16 n) s = .next { s with sp := n, stepCycles := 12 } ∧
    encode .ld_SP_HL = [0xF9] ∧ exec .ld_SP_HL s = .next { s with sp := s.h ++ s.l, stepCycles := 8 }

/-- O7. LD (a16),SP: SP's low byte at a16, then its high byte at a16 + 1, 20 cycles. Rests on: 40_loads.md section 5 (R152);
92_eei_decisions.md D2, D3, D35. -/
def Obligations.StoreStackPointer : Prop :=
  ∀ (a : Word) (s : State),
    encode (.ld_ma16_SP a) = [0x08, a.extractLsb' 0 8, a.extractLsb' 8 8] ∧
    exec (.ld_ma16_SP a) s = .next
      { (s.memWrite a (s.sp.extractLsb' 0 8)).memWrite (a + 1) (s.sp.extractLsb' 8 8) with stepCycles := 20 }

/-- O8. PUSH rr: the high byte at SP - 1, then the low byte at SP - 2, through the bus; SP ends at SP - 2. Rests on: 40_loads.md
sections 1 and 6 (R130, R154); 92_eei_decisions.md D3. -/
def Obligations.PushPairs : Prop :=
  ∀ (p : Reg16Stk) (s : State) (hi lo : Byte),
    (match p with
     | .bc => hi = s.b ∧ lo = s.c
     | .de => hi = s.d ∧ lo = s.e
     | .hl => hi = s.h ∧ lo = s.l
     | .af => hi = s.a ∧ lo = s.f) →
    encode (.push p) = [0b11#2 ++ p.index ++ 0b0101#4] ∧
    exec (.push p) s = .next
      { (s.memWrite (s.sp - 1) hi).memWrite (s.sp - 2) lo with sp := s.sp - 2, stepCycles := 16 }

/-- O9. POP rr and POP AF: the low byte from SP, the high byte from SP + 1, SP + 2; POP AF keeps only F's upper nibble. Rests
on: 40_loads.md sections 1 and 6 (R131, R155, R156); 10_state.md (R22); 92_eei_decisions.md D3. That SP + 1 and SP + 2 wrap
modulo 2^16 is the spec's own decision D3 (log 14). -/
def Obligations.PopPairs : Prop :=
  ∀ (p : Reg16Stk) (s : State),
    encode (.pop p) = [0b11#2 ++ p.index ++ 0b0001#4] ∧
    exec .pop_BC s = .next { s with b := s.memRead (s.sp + 1), c := s.memRead s.sp, sp := s.sp + 2, stepCycles := 12 } ∧
    exec .pop_DE s = .next { s with d := s.memRead (s.sp + 1), e := s.memRead s.sp, sp := s.sp + 2, stepCycles := 12 } ∧
    exec .pop_HL s = .next { s with h := s.memRead (s.sp + 1), l := s.memRead s.sp, sp := s.sp + 2, stepCycles := 12 } ∧
    exec .pop_AF s = .next
      { s with a := s.memRead (s.sp + 1), f := s.memRead s.sp &&& 0xF0, sp := s.sp + 2, stepCycles := 12 }

/-- O10. ADD A and ADC A with every operand form: the sum modulo 256 and all four flags. Rules: R180; R187; R188; R189; R190;
R191; R192. -/
def Obligations.AddAndAdc : Prop :=
  ∀ (src : AluSrc) (v : Byte) (cycles : Nat) (s : State), s.aluOperandIs src v cycles →
    (encode (.alu .add src) = aluEncoding .add src ∧
      exec (.alu .add src) s = .next
        { s with
          a := BitVec.ofNat 8 (s.a.toNat + v.toNat)
          f := flagByte (decide ((s.a.toNat + v.toNat) % 256 = 0)) false
            (decide (s.a.toNat % 16 + v.toNat % 16 > 0xF)) (decide (s.a.toNat + v.toNat > 0xFF))
          stepCycles := cycles }) ∧
    (encode (.alu .adc src) = aluEncoding .adc src ∧
      exec (.alu .adc src) s = .next
        { s with
          a := BitVec.ofNat 8 (s.a.toNat + v.toNat + s.flagC.toNat)
          f := flagByte (decide ((s.a.toNat + v.toNat + s.flagC.toNat) % 256 = 0)) false
            (decide (s.a.toNat % 16 + v.toNat % 16 + s.flagC.toNat > 0xF))
            (decide (s.a.toNat + v.toNat + s.flagC.toNat > 0xFF))
          stepCycles := cycles })

/-- O11. SUB A, SBC A and CP A with every operand form: the difference modulo 256 and all four flags; CP keeps A. Rules: R181;
R182; R193; R194; R195; R196; R197; R198; R208; R209; R210. -/
def Obligations.SubSbcAndCp : Prop :=
  ∀ (src : AluSrc) (v : Byte) (cycles : Nat) (s : State), s.aluOperandIs src v cycles →
    (encode (.alu .sub src) = aluEncoding .sub src ∧
      exec (.alu .sub src) s = .next
        { s with
          a := BitVec.ofInt 8 ((s.a.toNat : Int) - v.toNat)
          f := flagByte (decide (((s.a.toNat : Int) - v.toNat) % 256 = 0)) true
            (decide (s.a.toNat % 16 < v.toNat % 16)) (decide (s.a.toNat < v.toNat))
          stepCycles := cycles }) ∧
    (encode (.alu .sbc src) = aluEncoding .sbc src ∧
      exec (.alu .sbc src) s = .next
        { s with
          a := BitVec.ofInt 8 ((s.a.toNat : Int) - v.toNat - s.flagC.toNat)
          f := flagByte (decide (((s.a.toNat : Int) - v.toNat - s.flagC.toNat) % 256 = 0)) true
            (decide (s.a.toNat % 16 < v.toNat % 16 + s.flagC.toNat)) (decide (s.a.toNat < v.toNat + s.flagC.toNat))
          stepCycles := cycles }) ∧
    (encode (.alu .cp src) = aluEncoding .cp src ∧
      exec (.alu .cp src) s = .next
        { s with
          f := flagByte (decide (((s.a.toNat : Int) - v.toNat) % 256 = 0)) true
            (decide (s.a.toNat % 16 < v.toNat % 16)) (decide (s.a.toNat < v.toNat))
          stepCycles := cycles })

/-- O12. AND A with every operand form: the bitwise and, H 1, N and C 0, Z from the result. Rules: R199; R200; R201. -/
def Obligations.AndAccumulator : Prop :=
  ∀ (src : AluSrc) (v : Byte) (cycles : Nat) (s : State), s.aluOperandIs src v cycles →
    encode (.alu .and src) = aluEncoding .and src ∧
    exec (.alu .and src) s = .next
      { s with a := s.a &&& v, f := flagByte (decide (s.a &&& v = 0)) false true false, stepCycles := cycles }

/-- O13. XOR A and OR A with every operand form: the bitwise result, Z from it, and N, H and C 0. Rests on: 41_alu8.md sections
1 and 6 (R183, R202 to R207); 92_eei_decisions.md D16. -/
def Obligations.XorAndOr : Prop :=
  ∀ (src : AluSrc) (v : Byte) (cycles : Nat) (s : State), s.aluOperandIs src v cycles →
    (encode (.alu .xor src) = aluEncoding .xor src ∧
      exec (.alu .xor src) s = .next
        { s with a := s.a ^^^ v, f := flagByte (decide (s.a ^^^ v = 0)) false false false, stepCycles := cycles }) ∧
    (encode (.alu .or src) = aluEncoding .or src ∧
      exec (.alu .or src) s = .next
        { s with a := s.a ||| v, f := flagByte (decide (s.a ||| v = 0)) false false false, stepCycles := cycles })

/-- O14. INC r and DEC r: the register plus or minus 1 modulo 256, Z N H written, C kept. Rules: R184; R211; R213. -/
def Obligations.IncDecRegister : Prop :=
  ∀ (r : Reg8) (s : State),
    (encode (.inc8 (.reg r)) = [0b00#2 ++ r.index ++ 0b100#3] ∧
      exec (.inc8 (.reg r)) s = .next
        { s.setReg8 r (s.reg8 r + 1) with
          f := flagByte (decide (s.reg8 r + 1 = 0)) false (decide ((s.reg8 r).toNat % 16 = 0xF)) s.flagC
          stepCycles := 4 }) ∧
    (encode (.dec8 (.reg r)) = [0b00#2 ++ r.index ++ 0b101#3] ∧
      exec (.dec8 (.reg r)) s = .next
        { s.setReg8 r (s.reg8 r - 1) with
          f := flagByte (decide (s.reg8 r - 1 = 0)) true (decide ((s.reg8 r).toNat % 16 = 0x0)) s.flagC
          stepCycles := 4 })

/-- O15. INC (HL) and DEC (HL): read at HL, then one bus write of the result at HL, Z N H written, C kept. Rests on: 41_alu8.md
section 8 (R212, R214); 92_eei_decisions.md D35. -/
def Obligations.IncDecMemory : Prop :=
  ∀ (v : Byte) (s : State), v = s.memRead s.hl →
    (encode (.inc8 .mHL) = [0x34] ∧
      exec (.inc8 .mHL) s = .next
        { s.memWrite s.hl (v + 1) with
          f := flagByte (decide (v + 1 = 0)) false (decide (v.toNat % 16 = 0xF)) s.flagC, stepCycles := 12 }) ∧
    (encode (.dec8 .mHL) = [0x35] ∧
      exec (.dec8 .mHL) s = .next
        { s.memWrite s.hl (v - 1) with
          f := flagByte (decide (v - 1 = 0)) true (decide (v.toNat % 16 = 0x0)) s.flagC, stepCycles := 12 })

/-- O16. DAA: the two-stage correction on A, written out; Z from the result, H 0, C as corrected, N kept. Rests on: 41_alu8.md
section 9 (R215); 92_eei_decisions.md D17. -/
def Obligations.DecimalAdjust : Prop :=
  ∀ s : State,
    let a0 : Int := s.a.toNat
    let c1 : Bool := if s.flagN then s.flagC else s.flagC || decide (a0 > 0x99)
    let a1 : Int := if s.flagN then (if s.flagC then a0 - 0x60 else a0) else (if c1 then a0 + 0x60 else a0)
    let a2 : Int :=
      if s.flagN then (if s.flagH then a1 - 0x06 else a1)
      else (if s.flagH || decide (a1 % 16 > 0x09) then a1 + 0x06 else a1)
    encode .daa = [0x27] ∧
    exec .daa s = .next
      { s with
        a := BitVec.ofInt 8 a2, f := flagByte (decide (BitVec.ofInt 8 a2 = 0)) s.flagN false c1, stepCycles := 4 }

/-- O17. CPL, SCF and CCF: A complemented, or C set or complemented, and which flags each keeps. Rests on: 41_alu8.md section 9
(R216 to R218); 92_eei_decisions.md D18. -/
def Obligations.ComplementAndCarryFlags : Prop :=
  ∀ s : State,
    (encode .cpl = [0x2F] ∧
      exec .cpl s = .next { s with a := ~~~s.a, f := flagByte s.flagZ true true s.flagC, stepCycles := 4 }) ∧
    (encode .scf = [0x37] ∧ exec .scf s = .next { s with f := flagByte s.flagZ false false true, stepCycles := 4 }) ∧
    (encode .ccf = [0x3F] ∧
      exec .ccf s = .next { s with f := flagByte s.flagZ false false (!s.flagC), stepCycles := 4 })

/-- O18. RLCA, RRCA, RLA and RRA: A rotated by one bit, C the bit pushed out, and Z, N and H written 0. Rests on: 41_alu8.md
section 10 (R219 to R222); 92_eei_decisions.md D16. -/
def Obligations.AccumulatorRotates : Prop :=
  ∀ s : State,
    (encode .rlca = [0x07] ∧
      exec .rlca s = .next
        { s with a := s.a.rotateLeft 1, f := flagByte false false false (s.a.getLsbD 7), stepCycles := 4 }) ∧
    (encode .rrca = [0x0F] ∧
      exec .rrca s = .next
        { s with a := s.a.rotateRight 1, f := flagByte false false false (s.a.getLsbD 0), stepCycles := 4 }) ∧
    (encode .rla = [0x17] ∧
      exec .rla s = .next
        { s with
          a := BitVec.ofNat 8 (s.a.toNat * 2 + s.flagC.toNat), f := flagByte false false false (s.a.getLsbD 7)
          stepCycles := 4 }) ∧
    (encode .rra = [0x1F] ∧
      exec .rra s = .next
        { s with
          a := BitVec.ofNat 8 (s.a.toNat / 2 + 128 * s.flagC.toNat), f := flagByte false false false (s.a.getLsbD 0)
          stepCycles := 4 })

/-- O19. ADD HL,rr: the 16-bit sum, N 0, H out of bit 11, C out of bit 15, Z kept. Rests on: 42_alu16.md (R230);
92_eei_decisions.md D15. -/
def Obligations.AddPairToHL : Prop :=
  ∀ (p : Reg16) (s : State),
    encode (.addHL p) = [0b00#2 ++ p.index ++ 0b1001#4] ∧
    exec (.addHL p) s = .next
      { s with
        h := (s.hl + s.reg16 p).extractLsb' 8 8, l := (s.hl + s.reg16 p).extractLsb' 0 8
        f := flagByte s.flagZ false (decide (s.hl.toNat % 0x1000 + (s.reg16 p).toNat % 0x1000 > 0x0FFF))
          (decide (s.hl.toNat + (s.reg16 p).toNat > 0xFFFF))
        stepCycles := 8 }

/-- O20. INC rr and DEC rr: the pair plus or minus 1 modulo 2^16, and no flag written. Rules: R231; R232. -/
def Obligations.IncDecPair : Prop :=
  ∀ (p : Reg16) (s : State),
    (encode (.inc16 p) = [0b00#2 ++ p.index ++ 0b0011#4] ∧
      exec (.inc16 p) s = .next { s.setReg16 p (BitVec.ofNat 16 ((s.reg16 p).toNat + 1)) with stepCycles := 8 }) ∧
    (encode (.dec16 p) = [0b00#2 ++ p.index ++ 0b1011#4] ∧
      exec (.dec16 p) s = .next { s.setReg16 p (BitVec.ofInt 16 ((s.reg16 p).toNat - 1)) with stepCycles := 8 })

/-- O21. ADD SP,e8 and LD HL,SP+e8: the signed sum, Z and N 0, H and C of the unsigned byte sum. Rests on: 42_alu16.md (R233,
R234); 92_eei_decisions.md D14. -/
def Obligations.SignedStackSums : Prop :=
  ∀ (e : Byte) (s : State),
    let sum : Word := BitVec.ofInt 16 ((s.sp.toNat : Int) + e.toInt)
    let fl : Byte :=
      flagByte false false (decide (s.sp.toNat % 16 + e.toNat % 16 > 0x0F)) (decide (s.sp.toNat % 256 + e.toNat > 0xFF))
    (encode (.add_SP_e8 e) = [0xE8, e] ∧ exec (.add_SP_e8 e) s = .next { s with sp := sum, f := fl, stepCycles := 16 }) ∧
    (encode (.ld_HL_SPe8 e) = [0xF8, e] ∧
      exec (.ld_HL_SPe8 e) s = .next
        { s with h := sum.extractLsb' 8 8, l := sum.extractLsb' 0 8, f := fl, stepCycles := 12 })

/-- O22. JP a16, JP cc,a16, JP HL, JR e8 and JR cc,e8: pc, and the taken and not-taken cycle counts. Rules: R250; R251; R252;
R253; R254. -/
def Obligations.Jumps : Prop :=
  ∀ (a : Word) (e : Byte) (cc : Cond) (s : State),
    (encode (.jp_a16 a) = [0xC3, a.extractLsb' 0 8, a.extractLsb' 8 8] ∧
      exec (.jp_a16 a) s = .next { s with pc := a, stepCycles := 16 }) ∧
    (encode (.jpCond cc a) = [0b110#3 ++ cc.index ++ 0b010#3, a.extractLsb' 0 8, a.extractLsb' 8 8] ∧
      exec (.jpCond cc a) s = .next
        (if s.condHolds cc then { s with pc := a, stepCycles := 16 } else { s with stepCycles := 12 })) ∧
    (encode .jp_HL = [0xE9] ∧ exec .jp_HL s = .next { s with pc := s.h ++ s.l, stepCycles := 4 }) ∧
    (encode (.jr_e8 e) = [0x18, e] ∧
      exec (.jr_e8 e) s = .next { s with pc := s.pc + BitVec.ofInt 16 e.toInt, stepCycles := 12 }) ∧
    (encode (.jrCond cc e) = [0b001#3 ++ cc.index ++ 0b000#3, e] ∧
      exec (.jrCond cc e) s = .next
        (if s.condHolds cc then { s with pc := s.pc + BitVec.ofInt 16 e.toInt, stepCycles := 12 }
         else { s with stepCycles := 8 }))

/-- O23. CALL a16, CALL cc,a16 and RST n: the return address pushed through the bus, pc at the target. Rests on: 43_control.md
section 2 (R255, R256, R260); 40_loads.md section 1 (R130); 10_state.md (R22); 92_eei_decisions.md D3. That SP - 1 and SP -
2 wrap modulo 2^16 is the spec's own decision D3, not a sentence of R255, R256 or R260 (log 14). -/
def Obligations.CallsAndRst : Prop :=
  ∀ (a : Word) (cc : Cond) (y : Field3) (s : State),
    let pushed : State :=
      { (s.memWrite (s.sp - 1) (s.pc.extractLsb' 8 8)).memWrite (s.sp - 2) (s.pc.extractLsb' 0 8) with sp := s.sp - 2 }
    (encode (.call_a16 a) = [0xCD, a.extractLsb' 0 8, a.extractLsb' 8 8] ∧
      exec (.call_a16 a) s = .next { pushed with pc := a, stepCycles := 24 }) ∧
    (encode (.callCond cc a) = [0b110#3 ++ cc.index ++ 0b100#3, a.extractLsb' 0 8, a.extractLsb' 8 8] ∧
      exec (.callCond cc a) s = .next
        (if s.condHolds cc then { pushed with pc := a, stepCycles := 24 } else { s with stepCycles := 12 })) ∧
    (encode (.rst y) = [0b11#2 ++ y.index ++ 0b111#3] ∧
      exec (.rst y) s = .next { pushed with pc := BitVec.ofNat 16 (y.index.toNat * 8), stepCycles := 16 })

/-- O24. RET and RET cc: pc from the two bytes at SP, SP + 2; not taken, only the cycle count. Rests on: 43_control.md section 2
(R257, R258); 40_loads.md section 1 (R131); 10_state.md (R22); 92_eei_decisions.md D3. That SP + 1 and SP + 2 wrap modulo
2^16 is the spec's own decision D3, not a sentence of R257 or R258 (log 14). -/
def Obligations.Returns : Prop :=
  ∀ (cc : Cond) (s : State),
    let popped : State := { s with pc := s.memRead (s.sp + 1) ++ s.memRead s.sp, sp := s.sp + 2 }
    (encode .ret = [0xC9] ∧ exec .ret s = .next { popped with stepCycles := 16 }) ∧
    (encode (.retCond cc) = [0b110#3 ++ cc.index ++ 0b000#3] ∧
      exec (.retCond cc) s = .next
        (if s.condHolds cc then { popped with stepCycles := 20 } else { s with stepCycles := 8 }))

/-- O25. The CB rotates, shifts and SWAP on registers and on (HL): result, Z and C; N and H 0. Rests on: 44_cb_bitops.md
sections 1 to 3 (R280 to R296); 92_eei_decisions.md D16, D35. -/
def Obligations.RotatesAndShifts : Prop :=
  ∀ (op : RotOp) (r : Reg8) (s : State),
    let x := rotateSpec op (s.reg8 r) s.flagC
    let m := rotateSpec op (s.memRead s.hl) s.flagC
    (encode (.rot op (.reg r)) = [0xCB, 0b00#2 ++ op.index ++ r.index] ∧
      exec (.rot op (.reg r)) s = .next
        { s.setReg8 r x.1 with f := flagByte (decide (x.1 = 0)) false false x.2, stepCycles := 8 }) ∧
    (encode (.rot op .mHL) = [0xCB, 0b00#2 ++ op.index ++ 0b110#3] ∧
      exec (.rot op .mHL) s = .next
        { s.memWrite s.hl m.1 with f := flagByte (decide (m.1 = 0)) false false m.2, stepCycles := 16 })

/-- O26. BIT b,r and BIT b,(HL): Z the complement of bit b, N 0, H 1, C kept, and nothing written but F. Rules: R297; R298. -/
def Obligations.BitTest : Prop :=
  ∀ (b : Field3) (r : Reg8) (s : State),
    (encode (.bit b (.reg r)) = [0xCB, 0b01#2 ++ b.index ++ r.index] ∧
      exec (.bit b (.reg r)) s = .next
        { s with f := flagByte (!(s.reg8 r).getLsbD b.index.toNat) false true s.flagC, stepCycles := 8 }) ∧
    (encode (.bit b .mHL) = [0xCB, 0b01#2 ++ b.index ++ 0b110#3] ∧
      exec (.bit b .mHL) s = .next
        { s with f := flagByte (!(s.memRead s.hl).getLsbD b.index.toNat) false true s.flagC, stepCycles := 12 })

/-- O27. RES b and SET b on registers and on (HL): exactly bit b cleared or set, and no flag written. Rules: R299; R300; R301;
R302. -/
def Obligations.BitResetAndSet : Prop :=
  ∀ (b : Field3) (r : Reg8) (s : State), ∃ cleared set clearedM setM : Byte,
    (∀ k, k < 8 → cleared.getLsbD k = ((s.reg8 r).getLsbD k && k != b.index.toNat) ∧
      set.getLsbD k = ((s.reg8 r).getLsbD k || k == b.index.toNat) ∧
      clearedM.getLsbD k = ((s.memRead s.hl).getLsbD k && k != b.index.toNat) ∧
      setM.getLsbD k = ((s.memRead s.hl).getLsbD k || k == b.index.toNat)) ∧
    (encode (.res b (.reg r)) = [0xCB, 0b10#2 ++ b.index ++ r.index] ∧
      exec (.res b (.reg r)) s = .next { s.setReg8 r cleared with stepCycles := 8 }) ∧
    (encode (.set b (.reg r)) = [0xCB, 0b11#2 ++ b.index ++ r.index] ∧
      exec (.set b (.reg r)) s = .next { s.setReg8 r set with stepCycles := 8 }) ∧
    (encode (.res b .mHL) = [0xCB, 0b10#2 ++ b.index ++ 0b110#3] ∧
      exec (.res b .mHL) s = .next { s.memWrite s.hl clearedM with stepCycles := 16 }) ∧
    (encode (.set b .mHL) = [0xCB, 0b11#2 ++ b.index ++ 0b110#3] ∧
      exec (.set b .mHL) s = .next { s.memWrite s.hl setM with stepCycles := 16 })

/-- O28. NOP, STOP, HALT, DI, EI and RETI: the one field each writes, and the cycle counts. Rests on: 45_system.md (R310 to
R314); 43_control.md section 2 (R259); 92_eei_decisions.md D19, D20, D22. -/
def Obligations.SystemInstructions : Prop :=
  ∀ (n : Byte) (s : State),
    (encode .nop = [0x00] ∧ exec .nop s = .next { s with stepCycles := 4 }) ∧
    (encode (.stop n) = [0x10, n] ∧ exec (.stop n) s = .next { s with stepCycles := 4 }) ∧
    (encode .halt = [0x76] ∧ exec .halt s = .next { s with halted := true, stepCycles := 4 }) ∧
    (encode .di = [0xF3] ∧ exec .di s = .next { s with diPending := true, stepCycles := 4 }) ∧
    (encode .ei = [0xFB] ∧ exec .ei s = .next { s with eiPending := true, stepCycles := 4 }) ∧
    (encode .reti = [0xD9] ∧
      exec .reti s = .next
        { s with pc := s.memRead (s.sp + 1) ++ s.memRead s.sp, sp := s.sp + 2, ime := true, stepCycles := 16 })

/-- O29. The eleven unrecognized bytes: exactly these, each recorded with the address it was fetched from. Rests on:
45_system.md (R315); 30_encoding.md section 4 (R115); 92_eei_decisions.md D21, D34. -/
def Obligations.UnrecognizedOpcodes : Prop :=
  (∀ b0 b1 b2 : Byte, (decodeBytes b0 b1 b2).unrecognized = true ↔
    b0 ∈ [0xD3#8, 0xDB#8, 0xDD#8, 0xE3#8, 0xE4#8, 0xEB#8, 0xEC#8, 0xED#8, 0xF4#8, 0xFC#8, 0xFD#8]) ∧
  ∀ (i : Instr) (s : State), i.unrecognized = true → ∃ b0 : Byte,
    encode i = [b0] ∧ exec i s = .next { s with fault := some { pc := s.pc - 1, byte := b0 } }

/-- O30. Register pairs are views of two bytes; setting an r8 or r16 operand sets it and nothing else. Rests on: 10_state.md
sections 1 and 3 (R20, R21, R26); 30_encoding.md section 3 (R107, R108). -/
def Obligations.RegisterOperands : Prop :=
  ∀ (r q : Reg8) (p : Reg16) (x : Byte) (v : Word) (s : State),
    s.af.toNat = s.a.toNat * 256 + s.f.toNat ∧ s.bc.toNat = s.b.toNat * 256 + s.c.toNat ∧
    s.de.toNat = s.d.toNat * 256 + s.e.toNat ∧ s.hl.toNat = s.h.toNat * 256 + s.l.toNat ∧
    s.setBC v = { s with b := v.extractLsb' 8 8, c := v.extractLsb' 0 8 } ∧
    s.setDE v = { s with d := v.extractLsb' 8 8, e := v.extractLsb' 0 8 } ∧
    s.setHL v = { s with h := v.extractLsb' 8 8, l := v.extractLsb' 0 8 } ∧
    s.setAF v = { s with a := v.extractLsb' 8 8, f := v.extractLsb' 0 8 &&& 0xF0 } ∧
    [s.reg8 .b, s.reg8 .c, s.reg8 .d, s.reg8 .e, s.reg8 .h, s.reg8 .l, s.reg8 .a] = [s.b, s.c, s.d, s.e, s.h, s.l, s.a] ∧
    [s.reg16 .bc, s.reg16 .de, s.reg16 .hl, s.reg16 .sp] = [s.bc, s.de, s.hl, s.sp] ∧
    (s.setReg8 r x).reg8 q = (if q = r then x else s.reg8 q) ∧ (s.setReg8 r x).setReg8 r (s.reg8 r) = s ∧
    (s.setReg16 p v).reg16 p = v ∧ (s.setReg16 p v).setReg16 p (s.reg16 p) = s

/-- O31. A step runs the decoded instruction: exec past its bytes, then the pending flags, the tick, RENDER and the poll. Rests
on: 60_exceptions.md section 6 (R359, R360); 30_encoding.md section 1 (R100); 10_state.md section 2 (R23). -/
def Obligations.StepRunsDecodedInstruction : Prop :=
  ∀ (i : Instr) (s : State), s.live → s.halted = false → i.wellFormed = true → s.holdsAtPc i →
    ∃ t, exec i { s with pc := s.pc + BitVec.ofNat 16 (encode i).length } = .next t ∧ t.fault = none ∧
      (let u := ((((t.resolvePending ((encode i).headD 0)).tick t.stepCycles).dropAnswer).applyAnswer s.nextAnswer).poll
       step s = .next { u with frameCycles := s.frameCycles + t.stepCycles })

/-- O32. Words spelled out from the encodings of the spec decode to the instructions they stand for. Rests on: 30_encoding.md
sections 2 to 5 (R102, R117, R118). -/
def Obligations.SpelledWordsDecode : Prop :=
  decode [0b01_001_000#8] = .ok (.ld_C_B, []) ∧ decode [0b00_111_110#8, 0x3C#8] = .ok (.ld_A_n8 0x3C, []) ∧
  decode [0b00_00_0001#8, 0x34#8, 0x12#8] = .ok (.ld_BC_n16 0x1234, []) ∧
  decode [0x08#8, 0x00#8, 0xC0#8] = .ok (.ld_ma16_SP 0xC000, []) ∧ decode [0xF0#8, 0x0F#8] = .ok (.ldh_A_ma8 0x0F, []) ∧
  decode [0b00_100_010#8] = .ok (.ld_mHLinc_A, []) ∧ decode [0b11_11_0101#8] = .ok (.push_AF, []) ∧
  decode [0b10_001_110#8] = .ok (.adc_A_mHL, []) ∧ decode [0b11_111_110#8, 0x3C#8] = .ok (.cp_A_n8 0x3C, []) ∧
  decode [0b00_110_101#8] = .ok (.dec_mHL, []) ∧ decode [0b00_11_1001#8] = .ok (.add_HL_SP, []) ∧
  decode [0xE8#8, 0x02#8] = .ok (.add_SP_e8 0x02, []) ∧ decode [0b001_00_000#8, 0xFB#8] = .ok (.jr_NZ_e8 0xFB, []) ∧
  decode [0b110_10_010#8, 0x00#8, 0x02#8] = .ok (.jp_NC_a16 0x0200, []) ∧
  decode [0xCD#8, 0x34#8, 0x12#8] = .ok (.call_a16 0x1234, []) ∧ decode [0b11_101_111#8] = .ok (.rst_28, []) ∧
  decode [0b110_11_000#8] = .ok (.ret_C, []) ∧ decode [0xCB#8, 0b00_110_111#8] = .ok (.swap_A, []) ∧
  decode [0xCB#8, 0b01_111_000#8] = .ok (.bit_7_B, []) ∧ decode [0xCB#8, 0b10_000_110#8] = .ok (.res_0_mHL, []) ∧
  decode [0xCB#8, 0b11_011_000#8] = .ok (.set_3_B, []) ∧ decode [0x10#8, 0xCB#8] = .ok (.stop 0xCB, []) ∧
  decode [0b01_110_110#8] = .ok (.halt, []) ∧ decode [0xFB#8] = .ok (.ei, []) ∧ decode [0xD3#8] = .ok (.unrecognized_D3, [])

/-- O33. Decoding an encoded instruction gives it back, with every operand at every value, whatever bytes follow. Rests on:
30_encoding.md sections 1 and 2 (R100, R102, R105). -/
def Obligations.DecodeOfEncode : Prop :=
  ∀ (i : Instr) (rest : List Byte), decode (encode i ++ rest) = .ok (i, rest)

/-- O34. What decodes is the encoding of what it decodes to: every word has one meaning. Rests on: 30_encoding.md section 5
(R119). -/
def Obligations.EncodeOfDecode : Prop :=
  ∀ bytes : List Byte,
    (∀ i rest, decode bytes = .ok (i, rest) → bytes = encode i ++ rest) ∧
    (∀ e, decode bytes = .error e → bytes = [] ∨ ∃ b0 rest, bytes = b0 :: rest ∧ bytes.length < instrLength b0)

/-- O35. Every step keeps the legal states: F's low nibble, the banking registers, the countdown, the pending flags, memory.
Rests on: 10_state.md (R26, R36, R40); 60_exceptions.md (R338, R343). -/
def Obligations.StepKeepsInvariant : Prop :=
  ∀ s t : State, s.Inv → step s = .next t → t.Inv

/-- O36. The state after reset is a legal state. Rests on: 70_reset_and_hazards.md section 1 (R371 to R379). -/
def Obligations.ResetMeetsInvariant : Prop :=
  State.reset.Inv ∧ ∀ image : List Byte, image.length ≤ 0x200000 → (State.powerOn image).Inv

/-- O37. A flag that an instruction's rule does not name keeps its value, for every instruction. Rests on: 10_state.md section 3
(R27); 40_loads.md (R156); 90_conflicts.md C5. -/
def Obligations.FlagFrame : Prop :=
  ∀ (i : Instr) (s t : State), exec i s = .next t →
    (∀ k, 4 ≤ k → k < 8 → i.flagsWritten.getLsbD k = false → t.f.getLsbD k = s.f.getLsbD k) ∧
    (i.flagsWritten = 0 → t.f = s.f)

/-- O38. Every storage byte outside the cells an instruction stores to is unchanged; CART never changes. Rests on: 20_memory.md
section 3 (R57); 92_eei_decisions.md D36. -/
def Obligations.MemoryFrame : Prop :=
  ∀ (i : Instr) (s t : State), exec i s = .next t →
    t.cart = s.cart ∧
    (∀ n, (∀ a ∈ i.storeAddrs s, winCell a ≠ some n) → Memory.read .win t.win n = Memory.read .win s.win n) ∧
    (∀ n, (∀ a ∈ i.storeAddrs s, s.eramCell a ≠ some n) → Memory.read .eram t.eram n = Memory.read .eram s.eram n)

/-- O39. A bus read of any address outside those stored to gives what it gave before. Rests on: 20_memory.md sections 2 and 3
(R55 to R57). -/
def Obligations.ReadFrame : Prop :=
  ∀ (i : Instr) (s t : State), exec i s = .next t → (∀ a ∈ i.storeAddrs s, 0x8000 ≤ a.toNat) →
    ∀ b : Word, (∀ a ∈ i.storeAddrs s, echoBase a ≠ echoBase b) → t.memRead b = s.memRead b

/-- O40. Which instructions write SP, pc, ime, the pending flags, halted, the fault, the timer and the banking registers. Rests
on: 10_state.md (R22, R23, R30 to R33, R36 to R41). -/
def Obligations.StateFrame : Prop :=
  ∀ (i : Instr) (s t : State), exec i s = .next t →
    (i.writesSP = false → t.sp = s.sp) ∧ (i.transfersControl = false → t.pc = s.pc) ∧
    (i ≠ .reti → t.ime = s.ime) ∧ (i ≠ .ei → t.eiPending = s.eiPending) ∧ (i ≠ .di → t.diPending = s.diPending) ∧
    (i ≠ .halt → t.halted = s.halted) ∧ (i.unrecognized = false → t.fault = s.fault) ∧
    (0xFF04 ∉ i.storeAddrs s → t.divCounter = s.divCounter) ∧
    (0xFF07 ∉ i.storeAddrs s → t.timerCounter = s.timerCounter) ∧
    ((∀ a ∈ i.storeAddrs s, 0x8000 ≤ a.toNat) →
      t.romBank = s.romBank ∧ t.ramBank = s.ramBank ∧ t.ramEnabled = s.ramEnabled ∧
        t.romBankingMode = s.romBankingMode) ∧
    t.joyLatch = s.joyLatch ∧ t.mbc = s.mbc ∧ t.frameCycles = s.frameCycles ∧ t.renderScript = s.renderScript

/-- O41. POP after PUSH restores the pair and SP; SUB after ADD, RRC after RLC and SWAP after SWAP restore the operand. Rests
on: 40_loads.md section 1 (R131); 41_alu8.md (R186, R220); 44_cb_bitops.md (R283). -/
def Obligations.InverseOperations : Prop :=
  (∀ (p q : Reg16Stk) (s t u : State), s.readsBack (s.sp - 1) → s.readsBack (s.sp - 2) →
    exec (.push p) s = .next t → exec (.pop q) t = .next u →
    u.reg16Stk q = (if q = .af then s.reg16Stk p &&& 0xFFF0 else s.reg16Stk p) ∧ u.sp = s.sp) ∧
  (∀ (n : Byte) (s t u : State), exec (.add_A_n8 n) s = .next t → exec (.sub_A_n8 n) t = .next u → u.a = s.a) ∧
  (∀ s t u : State, exec .rlca s = .next t → exec .rrca t = .next u → u.a = s.a) ∧
  (∀ (r : Reg8) (s t u : State),
    (exec (.rot .rlc (.reg r)) s = .next t → exec (.rot .rrc (.reg r)) t = .next u → u.reg8 r = s.reg8 r) ∧
    (exec (.rot .swap (.reg r)) s = .next t → exec (.rot .swap (.reg r)) t = .next u → u.reg8 r = s.reg8 r))

/-- O42. The echo region 0xE000-0xFDFF is 0xC000-0xDDFF in both directions, and its own window bytes are never touched. Rules:
R65. -/
def Obligations.EchoRegion : Prop :=
  (∀ (s : State) (e : Word) (v : Byte), 0xE000 ≤ e.toNat → e.toNat ≤ 0xFDFF →
    s.memRead e = s.winByte (e - 0x2000) ∧ s.memWrite e v = s.setWin (e - 0x2000) v ∧
    s.memRead (e - 0x2000) = s.winByte (e - 0x2000) ∧ s.memWrite (e - 0x2000) v = s.setWin (e - 0x2000) v ∧
    (s.memWrite e v).memRead (e - 0x2000) = v ∧ (s.memWrite (e - 0x2000) v).memRead e = v) ∧
  (∀ (s : State) (a : Word) (v : Byte) (n : Nat), 0xE000 ≤ n → n ≤ 0xFDFF →
    Memory.read .win (s.memWrite a v).win n = Memory.read .win s.win n) ∧
  (∀ (s : State) (w : Memory),
    (∀ n, n < 0xE000 ∨ 0xFDFF < n → Memory.read .win w n = Memory.read .win s.win n) →
    ∀ a : Word, { s with win := w }.memRead a = s.memRead a)

/-- O43. The window bytes behind ROM, external RAM, the echo and DIV never change and are never seen. Rests on: 20_memory.md
(R51, R60, R65, R67); 10_state.md (R33, R37, R39, R40); 92_eei_decisions.md D33, D36. -/
def Obligations.WindowShadow : Prop :=
  (∀ s t : State, step s = .next t →
    t.cart = s.cart ∧ t.mbc = s.mbc ∧ t.joyLatch = s.joyLatch ∧
    ∀ n, hiddenCell n → Memory.read .win t.win n = Memory.read .win s.win n) ∧
  (∀ (s : State) (w : Memory),
    (∀ n, ¬hiddenCell n ∨ (0xFEA0 ≤ n ∧ n < 0xFEFF) → Memory.read .win w n = Memory.read .win s.win n) →
    ∀ a : Word, { s with win := w }.memRead a = s.memRead a)

/-- O44. ROM bank reads and external RAM: the buffer indices, the disabled value 0xFF, and the bank index in range. Rests on:
20_memory.md section 4 (R59, R60); 90_conflicts.md C1; 92_eei_decisions.md D6. -/
def Obligations.MappedReads : Prop :=
  ∀ (s : State) (a : Word) (v : Byte),
    (a.toNat ≤ 0x3FFF → s.memRead a = s.cartByte a.toNat) ∧
    (0x4000 ≤ a.toNat → a.toNat ≤ 0x7FFF →
      s.memRead a = s.cartByte ((a.toNat - 0x4000) + s.romBank.toNat * 0x4000) ∧
      (s.Inv → (a.toNat - 0x4000) + s.romBank.toNat * 0x4000 ≤ 0x1FFFFF ∧
        (s.mbc = .noController → s.memRead a = s.cartByte a.toNat))) ∧
    (0xA000 ≤ a.toNat → a.toNat ≤ 0xBFFF →
      let n := (a.toNat - 0xA000) + s.ramBank.toNat * 0x2000
      n < 0x8000 ∧
      (s.ramEnabled = true → s.memRead a = Memory.read .eram s.eram n ∧
        s.memWrite a v = { s with eram := Memory.write .eram s.eram n v } ∧ (s.memWrite a v).memRead a = v) ∧
      (s.ramEnabled = false → s.memRead a = 0xFF ∧ s.memWrite a v = s))

/-- O45. A write to 0x2000-0x3FFF sets the ROM bank's low bits, forcing bank 0 to 1. Rules: R62. -/
def Obligations.LowBankSelect : Prop :=
  ∀ (s : State) (a : Word) (v : Byte), 0x2000 ≤ a.toNat → a.toNat ≤ 0x3FFF →
    s.memWrite a v =
      { s with
        romBank :=
          match s.mbc with
          | .mbc2 => if v.toNat % 16 = 0 then 1 else BitVec.ofNat 8 (v.toNat % 16)
          | .mbc1 =>
            if s.romBank.toNat / 32 * 32 + v.toNat % 32 = 0 then 1
            else BitVec.ofNat 8 (s.romBank.toNat / 32 * 32 + v.toNat % 32)
          | .noController => s.romBank }

/-- O46. Writes to 0x0000-0x1FFF, 0x4000-0x5FFF and 0x6000-0x7FFF: RAM enable, high bank select, mode select. Rests on:
20_memory.md section 4 (R61, R63, R64); 92_eei_decisions.md D7, D8, D9. -/
def Obligations.BankingRegisters : Prop :=
  ∀ (s : State) (a : Word) (v : Byte),
    (a.toNat ≤ 0x1FFF →
      s.memWrite a v =
        { s with
          ramEnabled :=
            if s.mbc = .noController ∨ (s.mbc = .mbc2 ∧ a.toNat / 16 % 2 = 1) then s.ramEnabled
            else if v.toNat % 16 = 0xA then true
            else if v.toNat % 16 = 0 then false
            else s.ramEnabled }) ∧
    (0x4000 ≤ a.toNat → a.toNat ≤ 0x5FFF →
      s.memWrite a v =
        if s.mbc ≠ .mbc1 then s
        else if s.romBankingMode then
          { s with
            romBank :=
              if v.toNat % 4 * 32 + s.romBank.toNat % 32 = 0 then 1
              else BitVec.ofNat 8 (v.toNat % 4 * 32 + s.romBank.toNat % 32) }
        else { s with ramBank := BitVec.ofNat 2 v.toNat }) ∧
    (0x6000 ≤ a.toNat → a.toNat ≤ 0x7FFF →
      s.memWrite a v =
        if s.mbc ≠ .mbc1 then s
        else if v.toNat % 2 = 0 then { s with romBankingMode := true, ramBank := 0 }
        else { s with romBankingMode := false })

/-- O47. A write to TAC stores the byte and reloads the countdown exactly when bits 1:0 change. Rules: R69. -/
def Obligations.TimerControlWrite : Prop :=
  ∀ (s : State) (v : Byte),
    s.memWrite 0xFF07 v =
      { s with
        win := Memory.write .win s.win 0xFF07 v
        timerCounter :=
          if v.toNat % 4 = (s.winByte 0xFF07).toNat % 4 then s.timerCounter
          else [1024, 16, 64, 256].getD (v.toNat % 4) 0 } ∧
    s.memWrite 0xFF05 v = { s with win := Memory.write .win s.win 0xFF05 v } ∧
    s.memWrite 0xFF06 v = { s with win := Memory.write .win s.win 0xFF06 v }

/-- O48. The joypad register, the divider register, the restricted region, and plain storage everywhere else. Rests on:
20_memory.md section 5 (R66 to R68, R70); 92_eei_decisions.md D11, D27, D28, D33. -/
def Obligations.IoAndPlainStorage : Prop :=
  ∀ (s : State) (a : Word) (v : Byte),
    (∀ k, k < 8 → (s.memRead 0xFF00).getLsbD k =
      (decide (6 ≤ k) || (decide (4 ≤ k) && (s.winByte 0xFF00).getLsbD k) ||
        (decide (k < 4) && ((s.winByte 0xFF00).getLsbD 4 || s.joyLatch.getLsbD k) &&
          ((s.winByte 0xFF00).getLsbD 5 || s.joyLatch.getLsbD (k + 4))))) ∧
    s.memWrite 0xFF00 v = { s with win := Memory.write .win s.win 0xFF00 v } ∧
    (s.memRead 0xFF04).toNat = s.divCounter.toNat / 256 ∧ s.memWrite 0xFF04 v = { s with divCounter := 0 } ∧
    (0xFEA0 ≤ a.toNat → a.toNat ≤ 0xFEFE → s.memWrite a v = s ∧ s.memRead a = s.winByte a) ∧
    (plainAddr a → s.memRead a = s.winByte (echoBase a) ∧ (s.memWrite a v).memRead a = v ∧
      (a ≠ 0xFF07 → s.memWrite a v = { s with win := Memory.write .win s.win (echoBase a).toNat v }))

/-- O49. The tick: the divider always advances; the countdown, TIMA, TMA and the timer request when TAC bit 2 is set. Rests on:
60_exceptions.md section 2 (R335 to R337); 92_eei_decisions.md D11, D12. -/
def Obligations.TimerTick : Prop :=
  ∀ (s : State) (c : Nat),
    let ticked := { s with divCounter := BitVec.ofNat 16 (s.divCounter.toNat + c) }
    let period : Int := [1024, 16, 64, 256].getD ((s.winByte 0xFF07).toNat % 4) 0
    ((s.winByte 0xFF07).getLsbD 2 = false → s.tick c = ticked) ∧
    ((s.winByte 0xFF07).getLsbD 2 = true → s.timerCounter - c > 0 →
      s.tick c = { ticked with timerCounter := s.timerCounter - c }) ∧
    ((s.winByte 0xFF07).getLsbD 2 = true → s.timerCounter - c ≤ 0 → s.winByte 0xFF05 ≠ 0xFF →
      s.tick c = { ticked with
        timerCounter := period, win := Memory.write .win s.win 0xFF05 (s.winByte 0xFF05 + 1) }) ∧
    ((s.winByte 0xFF07).getLsbD 2 = true → s.timerCounter - c ≤ 0 → s.winByte 0xFF05 = 0xFF →
      s.tick c = { ticked with
        timerCounter := period
        win := Memory.write .win (Memory.write .win s.win 0xFF05 (s.winByte 0xFF06)) 0xFF0F (s.winByte 0xFF0F ||| 0x04) })

/-- O50. The poll services exactly the lowest pending source, and only with ime set. Rules: R351. -/
def Obligations.PollServicesLowest : Prop :=
  ∀ s : State,
    let pending := s.winByte 0xFF0F &&& s.winByte 0xFFFF &&& 0x1F
    (s.ime = true → pending ≠ 0 →
      ∃ (k : Nat) (n : IrqSource), n.mask = 1#8 <<< k ∧ pending.getLsbD k = true ∧
        (∀ j, j < k → pending.getLsbD j = false) ∧ s.poll = s.service n) ∧
    (s.ime = false ∨ pending = 0 → s.poll = s)

/-- O51. Taking an interrupt: the request bit, ime and halted cleared, pc pushed through the bus, pc at 0x0040 + 8n. Rests on:
60_exceptions.md sections 3 and 5 (R340, R341, R352); 92_eei_decisions.md D13, D24, D38. -/
def Obligations.TakingAnInterrupt : Prop :=
  ∀ (s : State) (n : IrqSource) (k : Nat), n.mask = 1#8 <<< k →
    (let cleared := s.setWin 0xFF0F (s.winByte 0xFF0F &&& ~~~(1#8 <<< k))
     s.service n =
       { (cleared.memWrite (s.sp - 1) (s.pc.extractLsb' 8 8)).memWrite (s.sp - 2) (s.pc.extractLsb' 0 8) with
         ime := false, halted := false, sp := s.sp - 2, pc := BitVec.ofNat 16 (0x0040 + 8 * k) }) ∧
    s.request n = s.setWin 0xFF0F (s.winByte 0xFF0F ||| (1#8 <<< k)) ∧
    ∀ (b : Word) (v : Byte), s.setWin b v = { s with win := Memory.write .win s.win b.toNat v }

/-- O52. EI: ime is unchanged in EI's own step and becomes 1 at the end of the next instruction that is not EI. Rules: R314. -/
def Obligations.EnableInterruptDelay : Prop :=
  encode .ei = [0xFB] ∧
  (∀ s : State, exec .ei s = .next { s with eiPending := true, stepCycles := 4 }) ∧
  (∀ s : State, s.live → s.halted = false → s.diPending = false → s.memRead s.pc = 0xFB →
    coreStep s = .next { s with pc := s.pc + 1, eiPending := true, stepCycles := 4 } ∧
    (s.ime = false → ∃ u, step s = .next u ∧ u.ime = false ∧ u.eiPending = true ∧ u.pc = s.pc + 1)) ∧
  (∀ s : State, s.live → s.halted = false → s.eiPending = true → s.memRead s.pc ≠ 0xFB →
    (decodeBytes (s.memRead s.pc) 0 0).unrecognized = false →
    ∃ t u, exec s.instrAtPc s.pastInstr = .next t ∧ (s.memRead s.pc ≠ 0xD9 → t.ime = s.ime) ∧
      coreStep s = .next u ∧ u.ime = true ∧ u.eiPending = false)

/-- O53. DI: ime is unchanged in DI's own step and becomes 0 at the end of the next instruction that is not DI. Rests on:
60_exceptions.md section 3 (R343 to R345); 45_system.md (R313); 92_eei_decisions.md D22, D23. -/
def Obligations.DisableInterruptDelay : Prop :=
  (∀ s : State, s.live → s.halted = false → s.eiPending = false → s.memRead s.pc = 0xF3 →
    coreStep s = .next { s with pc := s.pc + 1, diPending := true, stepCycles := 4 }) ∧
  (∀ s : State, s.live → s.halted = false → s.diPending = true → s.eiPending = false → s.memRead s.pc ≠ 0xF3 →
    (decodeBytes (s.memRead s.pc) 0 0).unrecognized = false →
    ∃ u, coreStep s = .next u ∧ u.ime = false ∧ u.diPending = false ∧
      u.eiPending = decide (s.memRead s.pc = 0xFB))

/-- O54. A halted core waits 4 cycles a step and wakes on a pending source whatever ime is, executing in the same step. Rests
on: 60_exceptions.md section 6 (R361); 92_eei_decisions.md D24. -/
def Obligations.HaltedStep : Prop :=
  ∀ s : State, s.live → s.halted = true →
    (s.winByte 0xFF0F &&& s.winByte 0xFFFF &&& 0x1F = 0 →
      coreStep s = .next { s with stepCycles := 4 } ∧
      (let u := (((({ s with stepCycles := 4 } : State).tick 4).dropAnswer).applyAnswer s.nextAnswer).poll
       step s = .next { u with frameCycles := s.frameCycles + 4 } ∧
       (s.ime = false → u.pc = s.pc ∧ u.halted = true ∧ u.eiPending = s.eiPending ∧ u.diPending = s.diPending))) ∧
    (s.winByte 0xFF0F &&& s.winByte 0xFFFF &&& 0x1F ≠ 0 → step s = step { s with halted := false })

/-- O55. An unrecognized byte ends its step at once with the fault recorded, and no step is taken after it. Rests on:
60_exceptions.md section 1 (R331); 00_scope.md (R12); 92_eei_decisions.md D34. -/
def Obligations.FaultEndsTheRun : Prop :=
  (∀ s : State, s.live → s.halted = false → (decodeBytes (s.memRead s.pc) 0 0).unrecognized = true →
    step s = .next { s with pc := s.pc + 1, fault := some { pc := s.pc, byte := s.memRead s.pc } }) ∧
  (∀ (s : State) (r : FaultRecord), s.fault = some r → step s = .fault (.decodeFault r.pc r.byte))

/-- O56. The CPU registers at power-on, as R371 lists them. Rules: R371. -/
def Obligations.ResetRegisters : Prop :=
  State.reset.a = 0x01 ∧ State.reset.f = 0xB0 ∧ State.reset.b = 0x00 ∧ State.reset.c = 0x13 ∧ State.reset.d = 0x00 ∧
  State.reset.e = 0xD8 ∧ State.reset.h = 0x01 ∧ State.reset.l = 0x4D ∧ State.reset.sp = 0xFFFE ∧ State.reset.pc = 0x0100 ∧
  State.reset.bc = 0x0013 ∧ State.reset.de = 0x00D8 ∧ State.reset.hl = 0x014D ∧
  State.reset.flagZ = true ∧ State.reset.flagN = false ∧ State.reset.flagH = true ∧ State.reset.flagC = true

/-- O57. Power-on with a cartridge image: CART is the image then zeros, mbc from its type byte, everything else as R372 to R378.
Rests on: 70_reset_and_hazards.md section 1 (R372 to R379); 20_memory.md section 4 (R58); 92_eei_decisions.md D5, D29. -/
def Obligations.PowerOnWithImage : Prop :=
  (∀ image : List Byte, 0x200000 < image.length → loadCartridge image = .error .imageTooLong) ∧
  (∀ image : List Byte, image.length ≤ 0x200000 → ∃ s, loadCartridge image = .ok s ∧
    s = { State.reset with cart := s.cart, mbc := s.mbc } ∧ (∀ n, s.cartByte n = image.getD n 0x00) ∧
    (s.mbc = .mbc1 ↔ (image.getD 0x147 0).toNat ∈ [1, 2, 3]) ∧ (s.mbc = .mbc2 ↔ (image.getD 0x147 0).toNat ∈ [5, 6])) ∧
  State.powerOn [] = State.reset ∧
  (State.reset.ime = false ∧ State.reset.eiPending = false ∧ State.reset.diPending = false ∧ State.reset.halted = false ∧
    State.reset.divCounter = 0 ∧ State.reset.timerCounter = 1024 ∧ State.reset.romBank = 1 ∧ State.reset.ramBank = 0 ∧
    State.reset.ramEnabled = false ∧ State.reset.romBankingMode = true ∧ State.reset.joyLatch = 0xFF ∧
    State.reset.fault = none ∧ State.reset.frameCycles = 0) ∧
  (∀ x ∈ [(0xFF10, 0x80), (0xFF11, 0xBF), (0xFF12, 0xF3), (0xFF14, 0xBF), (0xFF16, 0x3F), (0xFF19, 0xBF), (0xFF1A, 0x7F),
      (0xFF1B, 0xFF), (0xFF1C, 0x9F), (0xFF1E, 0xBF), (0xFF20, 0xFF), (0xFF23, 0xBF), (0xFF24, 0x77), (0xFF25, 0xF3),
      (0xFF26, 0xF1), (0xFF40, 0x91), (0xFF47, 0xFC), (0xFF48, 0xFF), (0xFF49, 0xFF)],
    State.reset.winByte (BitVec.ofNat 16 x.1) = BitVec.ofNat 8 x.2) ∧
  (∀ a : Word, a.toNat ∉ [0xFF10, 0xFF11, 0xFF12, 0xFF14, 0xFF16, 0xFF19, 0xFF1A, 0xFF1B, 0xFF1C, 0xFF1E, 0xFF20, 0xFF23,
      0xFF24, 0xFF25, 0xFF26, 0xFF40, 0xFF47, 0xFF48, 0xFF49] → State.reset.winByte a = 0x00) ∧
  (∀ n, State.reset.eramByte n = 0x00)

/-- O58. Pressing and releasing a key: the latch bit, and the joypad request only for a new press of a selected class. Rests on:
60_exceptions.md section 4 (R346 to R348); 92_eei_decisions.md D27. -/
def Obligations.KeyPorts : Prop :=
  ∀ (s : State) (k : Key) (j : Nat),
    [Key.right, Key.left, Key.up, Key.down, Key.a, Key.b, Key.select, Key.start][j]? = some k →
    (let latched := { s with joyLatch := s.joyLatch &&& ~~~(1#8 <<< j) }
     s.keyPressed k =
       if s.joyLatch.getLsbD j = true ∧ (s.winByte 0xFF00).getLsbD (if j < 4 then 4 else 5) = false then
         { latched with win := Memory.write .win s.win 0xFF0F (s.winByte 0xFF0F ||| 0x10) }
       else latched) ∧
    s.keyReleased k = { s with joyLatch := s.joyLatch ||| (1#8 <<< j) }

/-- O59. A frame call runs whole iterations until the cycle count exceeds the budget or a fault is set, and always ends. Rests
on: 60_exceptions.md section 6 (R363); 92_eei_decisions.md D30, D40. The bound on the number of iterations is the model's
(log 10). -/
def Obligations.FrameCallRunsToBudget : Prop :=
  ∀ (budget : Nat) (s : State), ∃ (k : Nat) (t : State),
    Host.Core.run core k { s with frameCycles := 0 } = .next t ∧ runFrameWith budget s = .next t ∧
    (t.frameCycles > budget ∨ t.fault ≠ none) ∧
    ∀ j, j < k → ∃ u : State, Host.Core.run core j { s with frameCycles := 0 } = .next u ∧ u.frameCycles ≤ budget ∧
      u.fault = none

/-- O60. Every run under a RENDER function is a run of the model with some script of RENDER's answers. Rests on:
60_exceptions.md sections 4 and 6 (R350, R360); 92_eei_decisions.md D31. The script of answers is the model's form of RENDER
(log 4). -/
def Obligations.RenderScriptsCoverRender : Prop :=
  ∀ (render : Renderer) (k : Nat) (s t : State) (h h' : Nat), runUnder render k (s, h) = .next (t, h') →
    ∃ script : List RenderAnswer,
      Host.Core.run core k { s with renderScript := script } = .next { t with renderScript := [] }

end
end

