-- ==== Sys2Proof/Laws/Bits.lean ====
section
/-! SUPPORT. The laws of the halves of a word, of the high page, and of the flag byte. -/

namespace Sys2Proof.Machine

theorem wordOf_toNat (hi lo : Byte) : (wordOf hi lo).toNat = hi.toNat * 256 + lo.toNat := by
  have e : (wordOf hi lo).toNat = hi.toNat <<< 8 ||| lo.toNat := BitVec.toNat_append hi lo
  have p := Nat.two_pow_add_eq_or_of_lt lo.isLt hi.toNat
  rw [e, Nat.shiftLeft_eq, Nat.mul_comm, ← p]

theorem hiByte_toNat (w : Word) : (hiByte w).toNat = w.toNat / 256 := by
  have := w.isLt
  unfold hiByte
  rw [BitVec.extractLsb'_toNat, Nat.shiftRight_eq_div_pow]
  omega

theorem loByte_toNat (w : Word) : (loByte w).toNat = w.toNat % 256 := by
  unfold loByte
  rw [BitVec.extractLsb'_toNat, Nat.shiftRight_eq_div_pow]
  omega

@[simp] theorem hiByte_wordOf (hi lo : Byte) : hiByte (wordOf hi lo) = hi := by
  have := lo.isLt
  apply BitVec.eq_of_toNat_eq; rw [hiByte_toNat, wordOf_toNat]; omega

@[simp] theorem loByte_wordOf (hi lo : Byte) : loByte (wordOf hi lo) = lo := by
  have := lo.isLt
  apply BitVec.eq_of_toNat_eq; rw [loByte_toNat, wordOf_toNat]; omega

/-- A word is its two halves. -/
@[simp] theorem wordOf_bytes (w : Word) : wordOf (hiByte w) (loByte w) = w := by
  apply BitVec.eq_of_toNat_eq; rw [wordOf_toNat, hiByte_toNat, loByte_toNat]; omega

theorem highPage_toNat (v : Byte) : (highPage v).toNat = 0xFF00 + v.toNat := wordOf_toNat 0xFF v

/-- The flags of the flag byte are the flags. -/
@[simp] theorem Flags.ofByte_toByte (fl : Flags) : Flags.ofByte fl.toByte = fl := by
  obtain ⟨z, n, h, c⟩ := fl
  revert z n h c; decide

/-- A written flag byte has its lower nibble 0 (R24, R26). -/
theorem Flags.toByte_nibble (fl : Flags) : fl.toByte &&& 0x0F = 0 := by
  obtain ⟨z, n, h, c⟩ := fl
  revert z n h c; decide

end Sys2Proof.Machine
end

