-- ==== Sys2Proof/Laws/State.lean ====
section
/-! SUPPORT. One lemma for each field of State and each update of it, so that no later proof unfolds a record update. -/

namespace Sys2Proof.Machine

/-! ### Flags -/

@[simp] theorem State.setFlags_a (s : State) (fl : Flags) : (s.setFlags fl).a = s.a := rfl
@[simp] theorem State.setFlags_f (s : State) (fl : Flags) : (s.setFlags fl).f = fl.toByte := rfl
@[simp] theorem State.setFlags_b (s : State) (fl : Flags) : (s.setFlags fl).b = s.b := rfl
@[simp] theorem State.setFlags_c (s : State) (fl : Flags) : (s.setFlags fl).c = s.c := rfl
@[simp] theorem State.setFlags_d (s : State) (fl : Flags) : (s.setFlags fl).d = s.d := rfl
@[simp] theorem State.setFlags_e (s : State) (fl : Flags) : (s.setFlags fl).e = s.e := rfl
@[simp] theorem State.setFlags_h (s : State) (fl : Flags) : (s.setFlags fl).h = s.h := rfl
@[simp] theorem State.setFlags_l (s : State) (fl : Flags) : (s.setFlags fl).l = s.l := rfl
@[simp] theorem State.setFlags_sp (s : State) (fl : Flags) : (s.setFlags fl).sp = s.sp := rfl
@[simp] theorem State.setFlags_pc (s : State) (fl : Flags) : (s.setFlags fl).pc = s.pc := rfl
@[simp] theorem State.setFlags_ime (s : State) (fl : Flags) : (s.setFlags fl).ime = s.ime := rfl
@[simp] theorem State.setFlags_eiPending (s : State) (fl : Flags) : (s.setFlags fl).eiPending = s.eiPending := rfl
@[simp] theorem State.setFlags_diPending (s : State) (fl : Flags) : (s.setFlags fl).diPending = s.diPending := rfl
@[simp] theorem State.setFlags_halted (s : State) (fl : Flags) : (s.setFlags fl).halted = s.halted := rfl
@[simp] theorem State.setFlags_divCounter (s : State) (fl : Flags) : (s.setFlags fl).divCounter = s.divCounter := rfl
@[simp] theorem State.setFlags_timerCounter (s : State) (fl : Flags) : (s.setFlags fl).timerCounter = s.timerCounter := rfl
@[simp] theorem State.setFlags_joyLatch (s : State) (fl : Flags) : (s.setFlags fl).joyLatch = s.joyLatch := rfl
@[simp] theorem State.setFlags_mbc (s : State) (fl : Flags) : (s.setFlags fl).mbc = s.mbc := rfl
@[simp] theorem State.setFlags_romBank (s : State) (fl : Flags) : (s.setFlags fl).romBank = s.romBank := rfl
@[simp] theorem State.setFlags_ramBank (s : State) (fl : Flags) : (s.setFlags fl).ramBank = s.ramBank := rfl
@[simp] theorem State.setFlags_ramEnabled (s : State) (fl : Flags) : (s.setFlags fl).ramEnabled = s.ramEnabled := rfl
@[simp] theorem State.setFlags_romBankingMode (s : State) (fl : Flags) : (s.setFlags fl).romBankingMode = s.romBankingMode := rfl
@[simp] theorem State.setFlags_win (s : State) (fl : Flags) : (s.setFlags fl).win = s.win := rfl
@[simp] theorem State.setFlags_eram (s : State) (fl : Flags) : (s.setFlags fl).eram = s.eram := rfl
@[simp] theorem State.setFlags_cart (s : State) (fl : Flags) : (s.setFlags fl).cart = s.cart := rfl
@[simp] theorem State.setFlags_fault (s : State) (fl : Flags) : (s.setFlags fl).fault = s.fault := rfl
@[simp] theorem State.setFlags_frameCycles (s : State) (fl : Flags) : (s.setFlags fl).frameCycles = s.frameCycles := rfl
@[simp] theorem State.setFlags_stepCycles (s : State) (fl : Flags) : (s.setFlags fl).stepCycles = s.stepCycles := rfl
@[simp] theorem State.setFlags_renderScript (s : State) (fl : Flags) : (s.setFlags fl).renderScript = s.renderScript := rfl

/-! ### Register pairs -/

@[simp] theorem State.setAF_a (s : State) (v : Word) : (s.setAF v).a = hiByte v := rfl
@[simp] theorem State.setAF_f (s : State) (v : Word) : (s.setAF v).f = loByte v &&& 0xF0 := rfl
@[simp] theorem State.setAF_b (s : State) (v : Word) : (s.setAF v).b = s.b := rfl
@[simp] theorem State.setAF_c (s : State) (v : Word) : (s.setAF v).c = s.c := rfl
@[simp] theorem State.setAF_d (s : State) (v : Word) : (s.setAF v).d = s.d := rfl
@[simp] theorem State.setAF_e (s : State) (v : Word) : (s.setAF v).e = s.e := rfl
@[simp] theorem State.setAF_h (s : State) (v : Word) : (s.setAF v).h = s.h := rfl
@[simp] theorem State.setAF_l (s : State) (v : Word) : (s.setAF v).l = s.l := rfl
@[simp] theorem State.setAF_sp (s : State) (v : Word) : (s.setAF v).sp = s.sp := rfl
@[simp] theorem State.setAF_pc (s : State) (v : Word) : (s.setAF v).pc = s.pc := rfl
@[simp] theorem State.setAF_ime (s : State) (v : Word) : (s.setAF v).ime = s.ime := rfl
@[simp] theorem State.setAF_eiPending (s : State) (v : Word) : (s.setAF v).eiPending = s.eiPending := rfl
@[simp] theorem State.setAF_diPending (s : State) (v : Word) : (s.setAF v).diPending = s.diPending := rfl
@[simp] theorem State.setAF_halted (s : State) (v : Word) : (s.setAF v).halted = s.halted := rfl
@[simp] theorem State.setAF_divCounter (s : State) (v : Word) : (s.setAF v).divCounter = s.divCounter := rfl
@[simp] theorem State.setAF_timerCounter (s : State) (v : Word) : (s.setAF v).timerCounter = s.timerCounter := rfl
@[simp] theorem State.setAF_joyLatch (s : State) (v : Word) : (s.setAF v).joyLatch = s.joyLatch := rfl
@[simp] theorem State.setAF_mbc (s : State) (v : Word) : (s.setAF v).mbc = s.mbc := rfl
@[simp] theorem State.setAF_romBank (s : State) (v : Word) : (s.setAF v).romBank = s.romBank := rfl
@[simp] theorem State.setAF_ramBank (s : State) (v : Word) : (s.setAF v).ramBank = s.ramBank := rfl
@[simp] theorem State.setAF_ramEnabled (s : State) (v : Word) : (s.setAF v).ramEnabled = s.ramEnabled := rfl
@[simp] theorem State.setAF_romBankingMode (s : State) (v : Word) : (s.setAF v).romBankingMode = s.romBankingMode := rfl
@[simp] theorem State.setAF_win (s : State) (v : Word) : (s.setAF v).win = s.win := rfl
@[simp] theorem State.setAF_eram (s : State) (v : Word) : (s.setAF v).eram = s.eram := rfl
@[simp] theorem State.setAF_cart (s : State) (v : Word) : (s.setAF v).cart = s.cart := rfl
@[simp] theorem State.setAF_fault (s : State) (v : Word) : (s.setAF v).fault = s.fault := rfl
@[simp] theorem State.setAF_frameCycles (s : State) (v : Word) : (s.setAF v).frameCycles = s.frameCycles := rfl
@[simp] theorem State.setAF_stepCycles (s : State) (v : Word) : (s.setAF v).stepCycles = s.stepCycles := rfl
@[simp] theorem State.setAF_renderScript (s : State) (v : Word) : (s.setAF v).renderScript = s.renderScript := rfl

@[simp] theorem State.setBC_a (s : State) (v : Word) : (s.setBC v).a = s.a := rfl
@[simp] theorem State.setBC_f (s : State) (v : Word) : (s.setBC v).f = s.f := rfl
@[simp] theorem State.setBC_b (s : State) (v : Word) : (s.setBC v).b = hiByte v := rfl
@[simp] theorem State.setBC_c (s : State) (v : Word) : (s.setBC v).c = loByte v := rfl
@[simp] theorem State.setBC_d (s : State) (v : Word) : (s.setBC v).d = s.d := rfl
@[simp] theorem State.setBC_e (s : State) (v : Word) : (s.setBC v).e = s.e := rfl
@[simp] theorem State.setBC_h (s : State) (v : Word) : (s.setBC v).h = s.h := rfl
@[simp] theorem State.setBC_l (s : State) (v : Word) : (s.setBC v).l = s.l := rfl
@[simp] theorem State.setBC_sp (s : State) (v : Word) : (s.setBC v).sp = s.sp := rfl
@[simp] theorem State.setBC_pc (s : State) (v : Word) : (s.setBC v).pc = s.pc := rfl
@[simp] theorem State.setBC_ime (s : State) (v : Word) : (s.setBC v).ime = s.ime := rfl
@[simp] theorem State.setBC_eiPending (s : State) (v : Word) : (s.setBC v).eiPending = s.eiPending := rfl
@[simp] theorem State.setBC_diPending (s : State) (v : Word) : (s.setBC v).diPending = s.diPending := rfl
@[simp] theorem State.setBC_halted (s : State) (v : Word) : (s.setBC v).halted = s.halted := rfl
@[simp] theorem State.setBC_divCounter (s : State) (v : Word) : (s.setBC v).divCounter = s.divCounter := rfl
@[simp] theorem State.setBC_timerCounter (s : State) (v : Word) : (s.setBC v).timerCounter = s.timerCounter := rfl
@[simp] theorem State.setBC_joyLatch (s : State) (v : Word) : (s.setBC v).joyLatch = s.joyLatch := rfl
@[simp] theorem State.setBC_mbc (s : State) (v : Word) : (s.setBC v).mbc = s.mbc := rfl
@[simp] theorem State.setBC_romBank (s : State) (v : Word) : (s.setBC v).romBank = s.romBank := rfl
@[simp] theorem State.setBC_ramBank (s : State) (v : Word) : (s.setBC v).ramBank = s.ramBank := rfl
@[simp] theorem State.setBC_ramEnabled (s : State) (v : Word) : (s.setBC v).ramEnabled = s.ramEnabled := rfl
@[simp] theorem State.setBC_romBankingMode (s : State) (v : Word) : (s.setBC v).romBankingMode = s.romBankingMode := rfl
@[simp] theorem State.setBC_win (s : State) (v : Word) : (s.setBC v).win = s.win := rfl
@[simp] theorem State.setBC_eram (s : State) (v : Word) : (s.setBC v).eram = s.eram := rfl
@[simp] theorem State.setBC_cart (s : State) (v : Word) : (s.setBC v).cart = s.cart := rfl
@[simp] theorem State.setBC_fault (s : State) (v : Word) : (s.setBC v).fault = s.fault := rfl
@[simp] theorem State.setBC_frameCycles (s : State) (v : Word) : (s.setBC v).frameCycles = s.frameCycles := rfl
@[simp] theorem State.setBC_stepCycles (s : State) (v : Word) : (s.setBC v).stepCycles = s.stepCycles := rfl
@[simp] theorem State.setBC_renderScript (s : State) (v : Word) : (s.setBC v).renderScript = s.renderScript := rfl

@[simp] theorem State.setDE_a (s : State) (v : Word) : (s.setDE v).a = s.a := rfl
@[simp] theorem State.setDE_f (s : State) (v : Word) : (s.setDE v).f = s.f := rfl
@[simp] theorem State.setDE_b (s : State) (v : Word) : (s.setDE v).b = s.b := rfl
@[simp] theorem State.setDE_c (s : State) (v : Word) : (s.setDE v).c = s.c := rfl
@[simp] theorem State.setDE_d (s : State) (v : Word) : (s.setDE v).d = hiByte v := rfl
@[simp] theorem State.setDE_e (s : State) (v : Word) : (s.setDE v).e = loByte v := rfl
@[simp] theorem State.setDE_h (s : State) (v : Word) : (s.setDE v).h = s.h := rfl
@[simp] theorem State.setDE_l (s : State) (v : Word) : (s.setDE v).l = s.l := rfl
@[simp] theorem State.setDE_sp (s : State) (v : Word) : (s.setDE v).sp = s.sp := rfl
@[simp] theorem State.setDE_pc (s : State) (v : Word) : (s.setDE v).pc = s.pc := rfl
@[simp] theorem State.setDE_ime (s : State) (v : Word) : (s.setDE v).ime = s.ime := rfl
@[simp] theorem State.setDE_eiPending (s : State) (v : Word) : (s.setDE v).eiPending = s.eiPending := rfl
@[simp] theorem State.setDE_diPending (s : State) (v : Word) : (s.setDE v).diPending = s.diPending := rfl
@[simp] theorem State.setDE_halted (s : State) (v : Word) : (s.setDE v).halted = s.halted := rfl
@[simp] theorem State.setDE_divCounter (s : State) (v : Word) : (s.setDE v).divCounter = s.divCounter := rfl
@[simp] theorem State.setDE_timerCounter (s : State) (v : Word) : (s.setDE v).timerCounter = s.timerCounter := rfl
@[simp] theorem State.setDE_joyLatch (s : State) (v : Word) : (s.setDE v).joyLatch = s.joyLatch := rfl
@[simp] theorem State.setDE_mbc (s : State) (v : Word) : (s.setDE v).mbc = s.mbc := rfl
@[simp] theorem State.setDE_romBank (s : State) (v : Word) : (s.setDE v).romBank = s.romBank := rfl
@[simp] theorem State.setDE_ramBank (s : State) (v : Word) : (s.setDE v).ramBank = s.ramBank := rfl
@[simp] theorem State.setDE_ramEnabled (s : State) (v : Word) : (s.setDE v).ramEnabled = s.ramEnabled := rfl
@[simp] theorem State.setDE_romBankingMode (s : State) (v : Word) : (s.setDE v).romBankingMode = s.romBankingMode := rfl
@[simp] theorem State.setDE_win (s : State) (v : Word) : (s.setDE v).win = s.win := rfl
@[simp] theorem State.setDE_eram (s : State) (v : Word) : (s.setDE v).eram = s.eram := rfl
@[simp] theorem State.setDE_cart (s : State) (v : Word) : (s.setDE v).cart = s.cart := rfl
@[simp] theorem State.setDE_fault (s : State) (v : Word) : (s.setDE v).fault = s.fault := rfl
@[simp] theorem State.setDE_frameCycles (s : State) (v : Word) : (s.setDE v).frameCycles = s.frameCycles := rfl
@[simp] theorem State.setDE_stepCycles (s : State) (v : Word) : (s.setDE v).stepCycles = s.stepCycles := rfl
@[simp] theorem State.setDE_renderScript (s : State) (v : Word) : (s.setDE v).renderScript = s.renderScript := rfl

@[simp] theorem State.setHL_a (s : State) (v : Word) : (s.setHL v).a = s.a := rfl
@[simp] theorem State.setHL_f (s : State) (v : Word) : (s.setHL v).f = s.f := rfl
@[simp] theorem State.setHL_b (s : State) (v : Word) : (s.setHL v).b = s.b := rfl
@[simp] theorem State.setHL_c (s : State) (v : Word) : (s.setHL v).c = s.c := rfl
@[simp] theorem State.setHL_d (s : State) (v : Word) : (s.setHL v).d = s.d := rfl
@[simp] theorem State.setHL_e (s : State) (v : Word) : (s.setHL v).e = s.e := rfl
@[simp] theorem State.setHL_h (s : State) (v : Word) : (s.setHL v).h = hiByte v := rfl
@[simp] theorem State.setHL_l (s : State) (v : Word) : (s.setHL v).l = loByte v := rfl
@[simp] theorem State.setHL_sp (s : State) (v : Word) : (s.setHL v).sp = s.sp := rfl
@[simp] theorem State.setHL_pc (s : State) (v : Word) : (s.setHL v).pc = s.pc := rfl
@[simp] theorem State.setHL_ime (s : State) (v : Word) : (s.setHL v).ime = s.ime := rfl
@[simp] theorem State.setHL_eiPending (s : State) (v : Word) : (s.setHL v).eiPending = s.eiPending := rfl
@[simp] theorem State.setHL_diPending (s : State) (v : Word) : (s.setHL v).diPending = s.diPending := rfl
@[simp] theorem State.setHL_halted (s : State) (v : Word) : (s.setHL v).halted = s.halted := rfl
@[simp] theorem State.setHL_divCounter (s : State) (v : Word) : (s.setHL v).divCounter = s.divCounter := rfl
@[simp] theorem State.setHL_timerCounter (s : State) (v : Word) : (s.setHL v).timerCounter = s.timerCounter := rfl
@[simp] theorem State.setHL_joyLatch (s : State) (v : Word) : (s.setHL v).joyLatch = s.joyLatch := rfl
@[simp] theorem State.setHL_mbc (s : State) (v : Word) : (s.setHL v).mbc = s.mbc := rfl
@[simp] theorem State.setHL_romBank (s : State) (v : Word) : (s.setHL v).romBank = s.romBank := rfl
@[simp] theorem State.setHL_ramBank (s : State) (v : Word) : (s.setHL v).ramBank = s.ramBank := rfl
@[simp] theorem State.setHL_ramEnabled (s : State) (v : Word) : (s.setHL v).ramEnabled = s.ramEnabled := rfl
@[simp] theorem State.setHL_romBankingMode (s : State) (v : Word) : (s.setHL v).romBankingMode = s.romBankingMode := rfl
@[simp] theorem State.setHL_win (s : State) (v : Word) : (s.setHL v).win = s.win := rfl
@[simp] theorem State.setHL_eram (s : State) (v : Word) : (s.setHL v).eram = s.eram := rfl
@[simp] theorem State.setHL_cart (s : State) (v : Word) : (s.setHL v).cart = s.cart := rfl
@[simp] theorem State.setHL_fault (s : State) (v : Word) : (s.setHL v).fault = s.fault := rfl
@[simp] theorem State.setHL_frameCycles (s : State) (v : Word) : (s.setHL v).frameCycles = s.frameCycles := rfl
@[simp] theorem State.setHL_stepCycles (s : State) (v : Word) : (s.setHL v).stepCycles = s.stepCycles := rfl
@[simp] theorem State.setHL_renderScript (s : State) (v : Word) : (s.setHL v).renderScript = s.renderScript := rfl

/-! ### Storage arrays -/

@[simp] theorem State.setWin_a (s : State) (addr : Word) (v : Byte) : (s.setWin addr v).a = s.a := rfl
@[simp] theorem State.setWin_f (s : State) (addr : Word) (v : Byte) : (s.setWin addr v).f = s.f := rfl
@[simp] theorem State.setWin_b (s : State) (addr : Word) (v : Byte) : (s.setWin addr v).b = s.b := rfl
@[simp] theorem State.setWin_c (s : State) (addr : Word) (v : Byte) : (s.setWin addr v).c = s.c := rfl
@[simp] theorem State.setWin_d (s : State) (addr : Word) (v : Byte) : (s.setWin addr v).d = s.d := rfl
@[simp] theorem State.setWin_e (s : State) (addr : Word) (v : Byte) : (s.setWin addr v).e = s.e := rfl
@[simp] theorem State.setWin_h (s : State) (addr : Word) (v : Byte) : (s.setWin addr v).h = s.h := rfl
@[simp] theorem State.setWin_l (s : State) (addr : Word) (v : Byte) : (s.setWin addr v).l = s.l := rfl
@[simp] theorem State.setWin_sp (s : State) (addr : Word) (v : Byte) : (s.setWin addr v).sp = s.sp := rfl
@[simp] theorem State.setWin_pc (s : State) (addr : Word) (v : Byte) : (s.setWin addr v).pc = s.pc := rfl
@[simp] theorem State.setWin_ime (s : State) (addr : Word) (v : Byte) : (s.setWin addr v).ime = s.ime := rfl
@[simp] theorem State.setWin_eiPending (s : State) (addr : Word) (v : Byte) : (s.setWin addr v).eiPending = s.eiPending := rfl
@[simp] theorem State.setWin_diPending (s : State) (addr : Word) (v : Byte) : (s.setWin addr v).diPending = s.diPending := rfl
@[simp] theorem State.setWin_halted (s : State) (addr : Word) (v : Byte) : (s.setWin addr v).halted = s.halted := rfl
@[simp] theorem State.setWin_divCounter (s : State) (addr : Word) (v : Byte) : (s.setWin addr v).divCounter = s.divCounter := rfl
@[simp] theorem State.setWin_timerCounter (s : State) (addr : Word) (v : Byte) : (s.setWin addr v).timerCounter = s.timerCounter := rfl
@[simp] theorem State.setWin_joyLatch (s : State) (addr : Word) (v : Byte) : (s.setWin addr v).joyLatch = s.joyLatch := rfl
@[simp] theorem State.setWin_mbc (s : State) (addr : Word) (v : Byte) : (s.setWin addr v).mbc = s.mbc := rfl
@[simp] theorem State.setWin_romBank (s : State) (addr : Word) (v : Byte) : (s.setWin addr v).romBank = s.romBank := rfl
@[simp] theorem State.setWin_ramBank (s : State) (addr : Word) (v : Byte) : (s.setWin addr v).ramBank = s.ramBank := rfl
@[simp] theorem State.setWin_ramEnabled (s : State) (addr : Word) (v : Byte) : (s.setWin addr v).ramEnabled = s.ramEnabled := rfl
@[simp] theorem State.setWin_romBankingMode (s : State) (addr : Word) (v : Byte) : (s.setWin addr v).romBankingMode = s.romBankingMode := rfl
@[simp] theorem State.setWin_win (s : State) (addr : Word) (v : Byte) : (s.setWin addr v).win = Memory.write .win s.win addr.toNat v := rfl
@[simp] theorem State.setWin_eram (s : State) (addr : Word) (v : Byte) : (s.setWin addr v).eram = s.eram := rfl
@[simp] theorem State.setWin_cart (s : State) (addr : Word) (v : Byte) : (s.setWin addr v).cart = s.cart := rfl
@[simp] theorem State.setWin_fault (s : State) (addr : Word) (v : Byte) : (s.setWin addr v).fault = s.fault := rfl
@[simp] theorem State.setWin_frameCycles (s : State) (addr : Word) (v : Byte) : (s.setWin addr v).frameCycles = s.frameCycles := rfl
@[simp] theorem State.setWin_stepCycles (s : State) (addr : Word) (v : Byte) : (s.setWin addr v).stepCycles = s.stepCycles := rfl
@[simp] theorem State.setWin_renderScript (s : State) (addr : Word) (v : Byte) : (s.setWin addr v).renderScript = s.renderScript := rfl

@[simp] theorem State.setEram_a (s : State) (n : Nat) (v : Byte) : (s.setEram n v).a = s.a := rfl
@[simp] theorem State.setEram_f (s : State) (n : Nat) (v : Byte) : (s.setEram n v).f = s.f := rfl
@[simp] theorem State.setEram_b (s : State) (n : Nat) (v : Byte) : (s.setEram n v).b = s.b := rfl
@[simp] theorem State.setEram_c (s : State) (n : Nat) (v : Byte) : (s.setEram n v).c = s.c := rfl
@[simp] theorem State.setEram_d (s : State) (n : Nat) (v : Byte) : (s.setEram n v).d = s.d := rfl
@[simp] theorem State.setEram_e (s : State) (n : Nat) (v : Byte) : (s.setEram n v).e = s.e := rfl
@[simp] theorem State.setEram_h (s : State) (n : Nat) (v : Byte) : (s.setEram n v).h = s.h := rfl
@[simp] theorem State.setEram_l (s : State) (n : Nat) (v : Byte) : (s.setEram n v).l = s.l := rfl
@[simp] theorem State.setEram_sp (s : State) (n : Nat) (v : Byte) : (s.setEram n v).sp = s.sp := rfl
@[simp] theorem State.setEram_pc (s : State) (n : Nat) (v : Byte) : (s.setEram n v).pc = s.pc := rfl
@[simp] theorem State.setEram_ime (s : State) (n : Nat) (v : Byte) : (s.setEram n v).ime = s.ime := rfl
@[simp] theorem State.setEram_eiPending (s : State) (n : Nat) (v : Byte) : (s.setEram n v).eiPending = s.eiPending := rfl
@[simp] theorem State.setEram_diPending (s : State) (n : Nat) (v : Byte) : (s.setEram n v).diPending = s.diPending := rfl
@[simp] theorem State.setEram_halted (s : State) (n : Nat) (v : Byte) : (s.setEram n v).halted = s.halted := rfl
@[simp] theorem State.setEram_divCounter (s : State) (n : Nat) (v : Byte) : (s.setEram n v).divCounter = s.divCounter := rfl
@[simp] theorem State.setEram_timerCounter (s : State) (n : Nat) (v : Byte) : (s.setEram n v).timerCounter = s.timerCounter := rfl
@[simp] theorem State.setEram_joyLatch (s : State) (n : Nat) (v : Byte) : (s.setEram n v).joyLatch = s.joyLatch := rfl
@[simp] theorem State.setEram_mbc (s : State) (n : Nat) (v : Byte) : (s.setEram n v).mbc = s.mbc := rfl
@[simp] theorem State.setEram_romBank (s : State) (n : Nat) (v : Byte) : (s.setEram n v).romBank = s.romBank := rfl
@[simp] theorem State.setEram_ramBank (s : State) (n : Nat) (v : Byte) : (s.setEram n v).ramBank = s.ramBank := rfl
@[simp] theorem State.setEram_ramEnabled (s : State) (n : Nat) (v : Byte) : (s.setEram n v).ramEnabled = s.ramEnabled := rfl
@[simp] theorem State.setEram_romBankingMode (s : State) (n : Nat) (v : Byte) : (s.setEram n v).romBankingMode = s.romBankingMode := rfl
@[simp] theorem State.setEram_win (s : State) (n : Nat) (v : Byte) : (s.setEram n v).win = s.win := rfl
@[simp] theorem State.setEram_eram (s : State) (n : Nat) (v : Byte) : (s.setEram n v).eram = Memory.write .eram s.eram n v := rfl
@[simp] theorem State.setEram_cart (s : State) (n : Nat) (v : Byte) : (s.setEram n v).cart = s.cart := rfl
@[simp] theorem State.setEram_fault (s : State) (n : Nat) (v : Byte) : (s.setEram n v).fault = s.fault := rfl
@[simp] theorem State.setEram_frameCycles (s : State) (n : Nat) (v : Byte) : (s.setEram n v).frameCycles = s.frameCycles := rfl
@[simp] theorem State.setEram_stepCycles (s : State) (n : Nat) (v : Byte) : (s.setEram n v).stepCycles = s.stepCycles := rfl
@[simp] theorem State.setEram_renderScript (s : State) (n : Nat) (v : Byte) : (s.setEram n v).renderScript = s.renderScript := rfl

/-! ### The stack, requests and the divider -/

@[simp] theorem State.popped_a (s : State) : s.popped.a = s.a := rfl
@[simp] theorem State.popped_f (s : State) : s.popped.f = s.f := rfl
@[simp] theorem State.popped_b (s : State) : s.popped.b = s.b := rfl
@[simp] theorem State.popped_c (s : State) : s.popped.c = s.c := rfl
@[simp] theorem State.popped_d (s : State) : s.popped.d = s.d := rfl
@[simp] theorem State.popped_e (s : State) : s.popped.e = s.e := rfl
@[simp] theorem State.popped_h (s : State) : s.popped.h = s.h := rfl
@[simp] theorem State.popped_l (s : State) : s.popped.l = s.l := rfl
@[simp] theorem State.popped_sp (s : State) : s.popped.sp = s.sp + 2 := rfl
@[simp] theorem State.popped_pc (s : State) : s.popped.pc = s.pc := rfl
@[simp] theorem State.popped_ime (s : State) : s.popped.ime = s.ime := rfl
@[simp] theorem State.popped_eiPending (s : State) : s.popped.eiPending = s.eiPending := rfl
@[simp] theorem State.popped_diPending (s : State) : s.popped.diPending = s.diPending := rfl
@[simp] theorem State.popped_halted (s : State) : s.popped.halted = s.halted := rfl
@[simp] theorem State.popped_divCounter (s : State) : s.popped.divCounter = s.divCounter := rfl
@[simp] theorem State.popped_timerCounter (s : State) : s.popped.timerCounter = s.timerCounter := rfl
@[simp] theorem State.popped_joyLatch (s : State) : s.popped.joyLatch = s.joyLatch := rfl
@[simp] theorem State.popped_mbc (s : State) : s.popped.mbc = s.mbc := rfl
@[simp] theorem State.popped_romBank (s : State) : s.popped.romBank = s.romBank := rfl
@[simp] theorem State.popped_ramBank (s : State) : s.popped.ramBank = s.ramBank := rfl
@[simp] theorem State.popped_ramEnabled (s : State) : s.popped.ramEnabled = s.ramEnabled := rfl
@[simp] theorem State.popped_romBankingMode (s : State) : s.popped.romBankingMode = s.romBankingMode := rfl
@[simp] theorem State.popped_win (s : State) : s.popped.win = s.win := rfl
@[simp] theorem State.popped_eram (s : State) : s.popped.eram = s.eram := rfl
@[simp] theorem State.popped_cart (s : State) : s.popped.cart = s.cart := rfl
@[simp] theorem State.popped_fault (s : State) : s.popped.fault = s.fault := rfl
@[simp] theorem State.popped_frameCycles (s : State) : s.popped.frameCycles = s.frameCycles := rfl
@[simp] theorem State.popped_stepCycles (s : State) : s.popped.stepCycles = s.stepCycles := rfl
@[simp] theorem State.popped_renderScript (s : State) : s.popped.renderScript = s.renderScript := rfl

@[simp] theorem State.request_a (s : State) (n : IrqSource) : (s.request n).a = s.a := rfl
@[simp] theorem State.request_f (s : State) (n : IrqSource) : (s.request n).f = s.f := rfl
@[simp] theorem State.request_b (s : State) (n : IrqSource) : (s.request n).b = s.b := rfl
@[simp] theorem State.request_c (s : State) (n : IrqSource) : (s.request n).c = s.c := rfl
@[simp] theorem State.request_d (s : State) (n : IrqSource) : (s.request n).d = s.d := rfl
@[simp] theorem State.request_e (s : State) (n : IrqSource) : (s.request n).e = s.e := rfl
@[simp] theorem State.request_h (s : State) (n : IrqSource) : (s.request n).h = s.h := rfl
@[simp] theorem State.request_l (s : State) (n : IrqSource) : (s.request n).l = s.l := rfl
@[simp] theorem State.request_sp (s : State) (n : IrqSource) : (s.request n).sp = s.sp := rfl
@[simp] theorem State.request_pc (s : State) (n : IrqSource) : (s.request n).pc = s.pc := rfl
@[simp] theorem State.request_ime (s : State) (n : IrqSource) : (s.request n).ime = s.ime := rfl
@[simp] theorem State.request_eiPending (s : State) (n : IrqSource) : (s.request n).eiPending = s.eiPending := rfl
@[simp] theorem State.request_diPending (s : State) (n : IrqSource) : (s.request n).diPending = s.diPending := rfl
@[simp] theorem State.request_halted (s : State) (n : IrqSource) : (s.request n).halted = s.halted := rfl
@[simp] theorem State.request_divCounter (s : State) (n : IrqSource) : (s.request n).divCounter = s.divCounter := rfl
@[simp] theorem State.request_timerCounter (s : State) (n : IrqSource) : (s.request n).timerCounter = s.timerCounter := rfl
@[simp] theorem State.request_joyLatch (s : State) (n : IrqSource) : (s.request n).joyLatch = s.joyLatch := rfl
@[simp] theorem State.request_mbc (s : State) (n : IrqSource) : (s.request n).mbc = s.mbc := rfl
@[simp] theorem State.request_romBank (s : State) (n : IrqSource) : (s.request n).romBank = s.romBank := rfl
@[simp] theorem State.request_ramBank (s : State) (n : IrqSource) : (s.request n).ramBank = s.ramBank := rfl
@[simp] theorem State.request_ramEnabled (s : State) (n : IrqSource) : (s.request n).ramEnabled = s.ramEnabled := rfl
@[simp] theorem State.request_romBankingMode (s : State) (n : IrqSource) : (s.request n).romBankingMode = s.romBankingMode := rfl
@[simp] theorem State.request_win (s : State) (n : IrqSource) : (s.request n).win = Memory.write .win s.win addrIF.toNat (s.winByte addrIF ||| n.mask) := rfl
@[simp] theorem State.request_eram (s : State) (n : IrqSource) : (s.request n).eram = s.eram := rfl
@[simp] theorem State.request_cart (s : State) (n : IrqSource) : (s.request n).cart = s.cart := rfl
@[simp] theorem State.request_fault (s : State) (n : IrqSource) : (s.request n).fault = s.fault := rfl
@[simp] theorem State.request_frameCycles (s : State) (n : IrqSource) : (s.request n).frameCycles = s.frameCycles := rfl
@[simp] theorem State.request_stepCycles (s : State) (n : IrqSource) : (s.request n).stepCycles = s.stepCycles := rfl
@[simp] theorem State.request_renderScript (s : State) (n : IrqSource) : (s.request n).renderScript = s.renderScript := rfl

@[simp] theorem State.tickDivider_a (s : State) (cyc : Nat) : (s.tickDivider cyc).a = s.a := rfl
@[simp] theorem State.tickDivider_f (s : State) (cyc : Nat) : (s.tickDivider cyc).f = s.f := rfl
@[simp] theorem State.tickDivider_b (s : State) (cyc : Nat) : (s.tickDivider cyc).b = s.b := rfl
@[simp] theorem State.tickDivider_c (s : State) (cyc : Nat) : (s.tickDivider cyc).c = s.c := rfl
@[simp] theorem State.tickDivider_d (s : State) (cyc : Nat) : (s.tickDivider cyc).d = s.d := rfl
@[simp] theorem State.tickDivider_e (s : State) (cyc : Nat) : (s.tickDivider cyc).e = s.e := rfl
@[simp] theorem State.tickDivider_h (s : State) (cyc : Nat) : (s.tickDivider cyc).h = s.h := rfl
@[simp] theorem State.tickDivider_l (s : State) (cyc : Nat) : (s.tickDivider cyc).l = s.l := rfl
@[simp] theorem State.tickDivider_sp (s : State) (cyc : Nat) : (s.tickDivider cyc).sp = s.sp := rfl
@[simp] theorem State.tickDivider_pc (s : State) (cyc : Nat) : (s.tickDivider cyc).pc = s.pc := rfl
@[simp] theorem State.tickDivider_ime (s : State) (cyc : Nat) : (s.tickDivider cyc).ime = s.ime := rfl
@[simp] theorem State.tickDivider_eiPending (s : State) (cyc : Nat) : (s.tickDivider cyc).eiPending = s.eiPending := rfl
@[simp] theorem State.tickDivider_diPending (s : State) (cyc : Nat) : (s.tickDivider cyc).diPending = s.diPending := rfl
@[simp] theorem State.tickDivider_halted (s : State) (cyc : Nat) : (s.tickDivider cyc).halted = s.halted := rfl
@[simp] theorem State.tickDivider_divCounter (s : State) (cyc : Nat) : (s.tickDivider cyc).divCounter = s.divCounter + BitVec.ofNat 16 cyc := rfl
@[simp] theorem State.tickDivider_timerCounter (s : State) (cyc : Nat) : (s.tickDivider cyc).timerCounter = s.timerCounter := rfl
@[simp] theorem State.tickDivider_joyLatch (s : State) (cyc : Nat) : (s.tickDivider cyc).joyLatch = s.joyLatch := rfl
@[simp] theorem State.tickDivider_mbc (s : State) (cyc : Nat) : (s.tickDivider cyc).mbc = s.mbc := rfl
@[simp] theorem State.tickDivider_romBank (s : State) (cyc : Nat) : (s.tickDivider cyc).romBank = s.romBank := rfl
@[simp] theorem State.tickDivider_ramBank (s : State) (cyc : Nat) : (s.tickDivider cyc).ramBank = s.ramBank := rfl
@[simp] theorem State.tickDivider_ramEnabled (s : State) (cyc : Nat) : (s.tickDivider cyc).ramEnabled = s.ramEnabled := rfl
@[simp] theorem State.tickDivider_romBankingMode (s : State) (cyc : Nat) : (s.tickDivider cyc).romBankingMode = s.romBankingMode := rfl
@[simp] theorem State.tickDivider_win (s : State) (cyc : Nat) : (s.tickDivider cyc).win = s.win := rfl
@[simp] theorem State.tickDivider_eram (s : State) (cyc : Nat) : (s.tickDivider cyc).eram = s.eram := rfl
@[simp] theorem State.tickDivider_cart (s : State) (cyc : Nat) : (s.tickDivider cyc).cart = s.cart := rfl
@[simp] theorem State.tickDivider_fault (s : State) (cyc : Nat) : (s.tickDivider cyc).fault = s.fault := rfl
@[simp] theorem State.tickDivider_frameCycles (s : State) (cyc : Nat) : (s.tickDivider cyc).frameCycles = s.frameCycles := rfl
@[simp] theorem State.tickDivider_stepCycles (s : State) (cyc : Nat) : (s.tickDivider cyc).stepCycles = s.stepCycles := rfl
@[simp] theorem State.tickDivider_renderScript (s : State) (cyc : Nat) : (s.tickDivider cyc).renderScript = s.renderScript := rfl

@[simp] theorem State.dropAnswer_a (s : State) : s.dropAnswer.a = s.a := rfl
@[simp] theorem State.dropAnswer_f (s : State) : s.dropAnswer.f = s.f := rfl
@[simp] theorem State.dropAnswer_b (s : State) : s.dropAnswer.b = s.b := rfl
@[simp] theorem State.dropAnswer_c (s : State) : s.dropAnswer.c = s.c := rfl
@[simp] theorem State.dropAnswer_d (s : State) : s.dropAnswer.d = s.d := rfl
@[simp] theorem State.dropAnswer_e (s : State) : s.dropAnswer.e = s.e := rfl
@[simp] theorem State.dropAnswer_h (s : State) : s.dropAnswer.h = s.h := rfl
@[simp] theorem State.dropAnswer_l (s : State) : s.dropAnswer.l = s.l := rfl
@[simp] theorem State.dropAnswer_sp (s : State) : s.dropAnswer.sp = s.sp := rfl
@[simp] theorem State.dropAnswer_pc (s : State) : s.dropAnswer.pc = s.pc := rfl
@[simp] theorem State.dropAnswer_ime (s : State) : s.dropAnswer.ime = s.ime := rfl
@[simp] theorem State.dropAnswer_eiPending (s : State) : s.dropAnswer.eiPending = s.eiPending := rfl
@[simp] theorem State.dropAnswer_diPending (s : State) : s.dropAnswer.diPending = s.diPending := rfl
@[simp] theorem State.dropAnswer_halted (s : State) : s.dropAnswer.halted = s.halted := rfl
@[simp] theorem State.dropAnswer_divCounter (s : State) : s.dropAnswer.divCounter = s.divCounter := rfl
@[simp] theorem State.dropAnswer_timerCounter (s : State) : s.dropAnswer.timerCounter = s.timerCounter := rfl
@[simp] theorem State.dropAnswer_joyLatch (s : State) : s.dropAnswer.joyLatch = s.joyLatch := rfl
@[simp] theorem State.dropAnswer_mbc (s : State) : s.dropAnswer.mbc = s.mbc := rfl
@[simp] theorem State.dropAnswer_romBank (s : State) : s.dropAnswer.romBank = s.romBank := rfl
@[simp] theorem State.dropAnswer_ramBank (s : State) : s.dropAnswer.ramBank = s.ramBank := rfl
@[simp] theorem State.dropAnswer_ramEnabled (s : State) : s.dropAnswer.ramEnabled = s.ramEnabled := rfl
@[simp] theorem State.dropAnswer_romBankingMode (s : State) : s.dropAnswer.romBankingMode = s.romBankingMode := rfl
@[simp] theorem State.dropAnswer_win (s : State) : s.dropAnswer.win = s.win := rfl
@[simp] theorem State.dropAnswer_eram (s : State) : s.dropAnswer.eram = s.eram := rfl
@[simp] theorem State.dropAnswer_cart (s : State) : s.dropAnswer.cart = s.cart := rfl
@[simp] theorem State.dropAnswer_fault (s : State) : s.dropAnswer.fault = s.fault := rfl
@[simp] theorem State.dropAnswer_frameCycles (s : State) : s.dropAnswer.frameCycles = s.frameCycles := rfl
@[simp] theorem State.dropAnswer_stepCycles (s : State) : s.dropAnswer.stepCycles = s.stepCycles := rfl
@[simp] theorem State.dropAnswer_renderScript (s : State) : s.dropAnswer.renderScript = s.renderScript.tail := rfl

@[simp] theorem State.pastInstr_a (s : State) : s.pastInstr.a = s.a := rfl
@[simp] theorem State.pastInstr_f (s : State) : s.pastInstr.f = s.f := rfl
@[simp] theorem State.pastInstr_b (s : State) : s.pastInstr.b = s.b := rfl
@[simp] theorem State.pastInstr_c (s : State) : s.pastInstr.c = s.c := rfl
@[simp] theorem State.pastInstr_d (s : State) : s.pastInstr.d = s.d := rfl
@[simp] theorem State.pastInstr_e (s : State) : s.pastInstr.e = s.e := rfl
@[simp] theorem State.pastInstr_h (s : State) : s.pastInstr.h = s.h := rfl
@[simp] theorem State.pastInstr_l (s : State) : s.pastInstr.l = s.l := rfl
@[simp] theorem State.pastInstr_sp (s : State) : s.pastInstr.sp = s.sp := rfl
@[simp] theorem State.pastInstr_pc (s : State) : s.pastInstr.pc = s.pc + BitVec.ofNat 16 (instrLength (s.memRead s.pc)) := rfl
@[simp] theorem State.pastInstr_ime (s : State) : s.pastInstr.ime = s.ime := rfl
@[simp] theorem State.pastInstr_eiPending (s : State) : s.pastInstr.eiPending = s.eiPending := rfl
@[simp] theorem State.pastInstr_diPending (s : State) : s.pastInstr.diPending = s.diPending := rfl
@[simp] theorem State.pastInstr_halted (s : State) : s.pastInstr.halted = s.halted := rfl
@[simp] theorem State.pastInstr_divCounter (s : State) : s.pastInstr.divCounter = s.divCounter := rfl
@[simp] theorem State.pastInstr_timerCounter (s : State) : s.pastInstr.timerCounter = s.timerCounter := rfl
@[simp] theorem State.pastInstr_joyLatch (s : State) : s.pastInstr.joyLatch = s.joyLatch := rfl
@[simp] theorem State.pastInstr_mbc (s : State) : s.pastInstr.mbc = s.mbc := rfl
@[simp] theorem State.pastInstr_romBank (s : State) : s.pastInstr.romBank = s.romBank := rfl
@[simp] theorem State.pastInstr_ramBank (s : State) : s.pastInstr.ramBank = s.ramBank := rfl
@[simp] theorem State.pastInstr_ramEnabled (s : State) : s.pastInstr.ramEnabled = s.ramEnabled := rfl
@[simp] theorem State.pastInstr_romBankingMode (s : State) : s.pastInstr.romBankingMode = s.romBankingMode := rfl
@[simp] theorem State.pastInstr_win (s : State) : s.pastInstr.win = s.win := rfl
@[simp] theorem State.pastInstr_eram (s : State) : s.pastInstr.eram = s.eram := rfl
@[simp] theorem State.pastInstr_cart (s : State) : s.pastInstr.cart = s.cart := rfl
@[simp] theorem State.pastInstr_fault (s : State) : s.pastInstr.fault = s.fault := rfl
@[simp] theorem State.pastInstr_frameCycles (s : State) : s.pastInstr.frameCycles = s.frameCycles := rfl
@[simp] theorem State.pastInstr_stepCycles (s : State) : s.pastInstr.stepCycles = s.stepCycles := rfl
@[simp] theorem State.pastInstr_renderScript (s : State) : s.pastInstr.renderScript = s.renderScript := rfl

@[simp] theorem State.returnFromInterrupt_a (s : State) : s.returnFromInterrupt.a = s.a := rfl
@[simp] theorem State.returnFromInterrupt_f (s : State) : s.returnFromInterrupt.f = s.f := rfl
@[simp] theorem State.returnFromInterrupt_b (s : State) : s.returnFromInterrupt.b = s.b := rfl
@[simp] theorem State.returnFromInterrupt_c (s : State) : s.returnFromInterrupt.c = s.c := rfl
@[simp] theorem State.returnFromInterrupt_d (s : State) : s.returnFromInterrupt.d = s.d := rfl
@[simp] theorem State.returnFromInterrupt_e (s : State) : s.returnFromInterrupt.e = s.e := rfl
@[simp] theorem State.returnFromInterrupt_h (s : State) : s.returnFromInterrupt.h = s.h := rfl
@[simp] theorem State.returnFromInterrupt_l (s : State) : s.returnFromInterrupt.l = s.l := rfl
@[simp] theorem State.returnFromInterrupt_sp (s : State) : s.returnFromInterrupt.sp = s.sp + 2 := rfl
@[simp] theorem State.returnFromInterrupt_pc (s : State) : s.returnFromInterrupt.pc = s.popValue := rfl
@[simp] theorem State.returnFromInterrupt_ime (s : State) : s.returnFromInterrupt.ime = true := rfl
@[simp] theorem State.returnFromInterrupt_eiPending (s : State) : s.returnFromInterrupt.eiPending = s.eiPending := rfl
@[simp] theorem State.returnFromInterrupt_diPending (s : State) : s.returnFromInterrupt.diPending = s.diPending := rfl
@[simp] theorem State.returnFromInterrupt_halted (s : State) : s.returnFromInterrupt.halted = s.halted := rfl
@[simp] theorem State.returnFromInterrupt_divCounter (s : State) : s.returnFromInterrupt.divCounter = s.divCounter := rfl
@[simp] theorem State.returnFromInterrupt_timerCounter (s : State) : s.returnFromInterrupt.timerCounter = s.timerCounter := rfl
@[simp] theorem State.returnFromInterrupt_joyLatch (s : State) : s.returnFromInterrupt.joyLatch = s.joyLatch := rfl
@[simp] theorem State.returnFromInterrupt_mbc (s : State) : s.returnFromInterrupt.mbc = s.mbc := rfl
@[simp] theorem State.returnFromInterrupt_romBank (s : State) : s.returnFromInterrupt.romBank = s.romBank := rfl
@[simp] theorem State.returnFromInterrupt_ramBank (s : State) : s.returnFromInterrupt.ramBank = s.ramBank := rfl
@[simp] theorem State.returnFromInterrupt_ramEnabled (s : State) : s.returnFromInterrupt.ramEnabled = s.ramEnabled := rfl
@[simp] theorem State.returnFromInterrupt_romBankingMode (s : State) : s.returnFromInterrupt.romBankingMode = s.romBankingMode := rfl
@[simp] theorem State.returnFromInterrupt_win (s : State) : s.returnFromInterrupt.win = s.win := rfl
@[simp] theorem State.returnFromInterrupt_eram (s : State) : s.returnFromInterrupt.eram = s.eram := rfl
@[simp] theorem State.returnFromInterrupt_cart (s : State) : s.returnFromInterrupt.cart = s.cart := rfl
@[simp] theorem State.returnFromInterrupt_fault (s : State) : s.returnFromInterrupt.fault = s.fault := rfl
@[simp] theorem State.returnFromInterrupt_frameCycles (s : State) : s.returnFromInterrupt.frameCycles = s.frameCycles := rfl
@[simp] theorem State.returnFromInterrupt_stepCycles (s : State) : s.returnFromInterrupt.stepCycles = s.stepCycles := rfl
@[simp] theorem State.returnFromInterrupt_renderScript (s : State) : s.returnFromInterrupt.renderScript = s.renderScript := rfl

/-! ### Register operands -/

@[simp] theorem State.setReg8_f (s : State) (r : Reg8) (v : Byte) : (s.setReg8 r v).f = s.f := by cases r <;> rfl
@[simp] theorem State.setReg8_sp (s : State) (r : Reg8) (v : Byte) : (s.setReg8 r v).sp = s.sp := by cases r <;> rfl
@[simp] theorem State.setReg8_pc (s : State) (r : Reg8) (v : Byte) : (s.setReg8 r v).pc = s.pc := by cases r <;> rfl
@[simp] theorem State.setReg8_ime (s : State) (r : Reg8) (v : Byte) : (s.setReg8 r v).ime = s.ime := by cases r <;> rfl
@[simp] theorem State.setReg8_eiPending (s : State) (r : Reg8) (v : Byte) : (s.setReg8 r v).eiPending = s.eiPending := by cases r <;> rfl
@[simp] theorem State.setReg8_diPending (s : State) (r : Reg8) (v : Byte) : (s.setReg8 r v).diPending = s.diPending := by cases r <;> rfl
@[simp] theorem State.setReg8_halted (s : State) (r : Reg8) (v : Byte) : (s.setReg8 r v).halted = s.halted := by cases r <;> rfl
@[simp] theorem State.setReg8_divCounter (s : State) (r : Reg8) (v : Byte) : (s.setReg8 r v).divCounter = s.divCounter := by cases r <;> rfl
@[simp] theorem State.setReg8_timerCounter (s : State) (r : Reg8) (v : Byte) : (s.setReg8 r v).timerCounter = s.timerCounter := by cases r <;> rfl
@[simp] theorem State.setReg8_joyLatch (s : State) (r : Reg8) (v : Byte) : (s.setReg8 r v).joyLatch = s.joyLatch := by cases r <;> rfl
@[simp] theorem State.setReg8_mbc (s : State) (r : Reg8) (v : Byte) : (s.setReg8 r v).mbc = s.mbc := by cases r <;> rfl
@[simp] theorem State.setReg8_romBank (s : State) (r : Reg8) (v : Byte) : (s.setReg8 r v).romBank = s.romBank := by cases r <;> rfl
@[simp] theorem State.setReg8_ramBank (s : State) (r : Reg8) (v : Byte) : (s.setReg8 r v).ramBank = s.ramBank := by cases r <;> rfl
@[simp] theorem State.setReg8_ramEnabled (s : State) (r : Reg8) (v : Byte) : (s.setReg8 r v).ramEnabled = s.ramEnabled := by cases r <;> rfl
@[simp] theorem State.setReg8_romBankingMode (s : State) (r : Reg8) (v : Byte) : (s.setReg8 r v).romBankingMode = s.romBankingMode := by cases r <;> rfl
@[simp] theorem State.setReg8_win (s : State) (r : Reg8) (v : Byte) : (s.setReg8 r v).win = s.win := by cases r <;> rfl
@[simp] theorem State.setReg8_eram (s : State) (r : Reg8) (v : Byte) : (s.setReg8 r v).eram = s.eram := by cases r <;> rfl
@[simp] theorem State.setReg8_cart (s : State) (r : Reg8) (v : Byte) : (s.setReg8 r v).cart = s.cart := by cases r <;> rfl
@[simp] theorem State.setReg8_fault (s : State) (r : Reg8) (v : Byte) : (s.setReg8 r v).fault = s.fault := by cases r <;> rfl
@[simp] theorem State.setReg8_frameCycles (s : State) (r : Reg8) (v : Byte) : (s.setReg8 r v).frameCycles = s.frameCycles := by cases r <;> rfl
@[simp] theorem State.setReg8_stepCycles (s : State) (r : Reg8) (v : Byte) : (s.setReg8 r v).stepCycles = s.stepCycles := by cases r <;> rfl
@[simp] theorem State.setReg8_renderScript (s : State) (r : Reg8) (v : Byte) : (s.setReg8 r v).renderScript = s.renderScript := by cases r <;> rfl

@[simp] theorem State.setReg16_a (s : State) (p : Reg16) (v : Word) : (s.setReg16 p v).a = s.a := by cases p <;> rfl
@[simp] theorem State.setReg16_f (s : State) (p : Reg16) (v : Word) : (s.setReg16 p v).f = s.f := by cases p <;> rfl
@[simp] theorem State.setReg16_pc (s : State) (p : Reg16) (v : Word) : (s.setReg16 p v).pc = s.pc := by cases p <;> rfl
@[simp] theorem State.setReg16_ime (s : State) (p : Reg16) (v : Word) : (s.setReg16 p v).ime = s.ime := by cases p <;> rfl
@[simp] theorem State.setReg16_eiPending (s : State) (p : Reg16) (v : Word) : (s.setReg16 p v).eiPending = s.eiPending := by cases p <;> rfl
@[simp] theorem State.setReg16_diPending (s : State) (p : Reg16) (v : Word) : (s.setReg16 p v).diPending = s.diPending := by cases p <;> rfl
@[simp] theorem State.setReg16_halted (s : State) (p : Reg16) (v : Word) : (s.setReg16 p v).halted = s.halted := by cases p <;> rfl
@[simp] theorem State.setReg16_divCounter (s : State) (p : Reg16) (v : Word) : (s.setReg16 p v).divCounter = s.divCounter := by cases p <;> rfl
@[simp] theorem State.setReg16_timerCounter (s : State) (p : Reg16) (v : Word) : (s.setReg16 p v).timerCounter = s.timerCounter := by cases p <;> rfl
@[simp] theorem State.setReg16_joyLatch (s : State) (p : Reg16) (v : Word) : (s.setReg16 p v).joyLatch = s.joyLatch := by cases p <;> rfl
@[simp] theorem State.setReg16_mbc (s : State) (p : Reg16) (v : Word) : (s.setReg16 p v).mbc = s.mbc := by cases p <;> rfl
@[simp] theorem State.setReg16_romBank (s : State) (p : Reg16) (v : Word) : (s.setReg16 p v).romBank = s.romBank := by cases p <;> rfl
@[simp] theorem State.setReg16_ramBank (s : State) (p : Reg16) (v : Word) : (s.setReg16 p v).ramBank = s.ramBank := by cases p <;> rfl
@[simp] theorem State.setReg16_ramEnabled (s : State) (p : Reg16) (v : Word) : (s.setReg16 p v).ramEnabled = s.ramEnabled := by cases p <;> rfl
@[simp] theorem State.setReg16_romBankingMode (s : State) (p : Reg16) (v : Word) : (s.setReg16 p v).romBankingMode = s.romBankingMode := by cases p <;> rfl
@[simp] theorem State.setReg16_win (s : State) (p : Reg16) (v : Word) : (s.setReg16 p v).win = s.win := by cases p <;> rfl
@[simp] theorem State.setReg16_eram (s : State) (p : Reg16) (v : Word) : (s.setReg16 p v).eram = s.eram := by cases p <;> rfl
@[simp] theorem State.setReg16_cart (s : State) (p : Reg16) (v : Word) : (s.setReg16 p v).cart = s.cart := by cases p <;> rfl
@[simp] theorem State.setReg16_fault (s : State) (p : Reg16) (v : Word) : (s.setReg16 p v).fault = s.fault := by cases p <;> rfl
@[simp] theorem State.setReg16_frameCycles (s : State) (p : Reg16) (v : Word) : (s.setReg16 p v).frameCycles = s.frameCycles := by cases p <;> rfl
@[simp] theorem State.setReg16_stepCycles (s : State) (p : Reg16) (v : Word) : (s.setReg16 p v).stepCycles = s.stepCycles := by cases p <;> rfl
@[simp] theorem State.setReg16_renderScript (s : State) (p : Reg16) (v : Word) : (s.setReg16 p v).renderScript = s.renderScript := by cases p <;> rfl

@[simp] theorem State.setReg16Stk_sp (s : State) (p : Reg16Stk) (v : Word) : (s.setReg16Stk p v).sp = s.sp := by cases p <;> rfl
@[simp] theorem State.setReg16Stk_pc (s : State) (p : Reg16Stk) (v : Word) : (s.setReg16Stk p v).pc = s.pc := by cases p <;> rfl
@[simp] theorem State.setReg16Stk_ime (s : State) (p : Reg16Stk) (v : Word) : (s.setReg16Stk p v).ime = s.ime := by cases p <;> rfl
@[simp] theorem State.setReg16Stk_eiPending (s : State) (p : Reg16Stk) (v : Word) : (s.setReg16Stk p v).eiPending = s.eiPending := by cases p <;> rfl
@[simp] theorem State.setReg16Stk_diPending (s : State) (p : Reg16Stk) (v : Word) : (s.setReg16Stk p v).diPending = s.diPending := by cases p <;> rfl
@[simp] theorem State.setReg16Stk_halted (s : State) (p : Reg16Stk) (v : Word) : (s.setReg16Stk p v).halted = s.halted := by cases p <;> rfl
@[simp] theorem State.setReg16Stk_divCounter (s : State) (p : Reg16Stk) (v : Word) : (s.setReg16Stk p v).divCounter = s.divCounter := by cases p <;> rfl
@[simp] theorem State.setReg16Stk_timerCounter (s : State) (p : Reg16Stk) (v : Word) : (s.setReg16Stk p v).timerCounter = s.timerCounter := by cases p <;> rfl
@[simp] theorem State.setReg16Stk_joyLatch (s : State) (p : Reg16Stk) (v : Word) : (s.setReg16Stk p v).joyLatch = s.joyLatch := by cases p <;> rfl
@[simp] theorem State.setReg16Stk_mbc (s : State) (p : Reg16Stk) (v : Word) : (s.setReg16Stk p v).mbc = s.mbc := by cases p <;> rfl
@[simp] theorem State.setReg16Stk_romBank (s : State) (p : Reg16Stk) (v : Word) : (s.setReg16Stk p v).romBank = s.romBank := by cases p <;> rfl
@[simp] theorem State.setReg16Stk_ramBank (s : State) (p : Reg16Stk) (v : Word) : (s.setReg16Stk p v).ramBank = s.ramBank := by cases p <;> rfl
@[simp] theorem State.setReg16Stk_ramEnabled (s : State) (p : Reg16Stk) (v : Word) : (s.setReg16Stk p v).ramEnabled = s.ramEnabled := by cases p <;> rfl
@[simp] theorem State.setReg16Stk_romBankingMode (s : State) (p : Reg16Stk) (v : Word) : (s.setReg16Stk p v).romBankingMode = s.romBankingMode := by cases p <;> rfl
@[simp] theorem State.setReg16Stk_win (s : State) (p : Reg16Stk) (v : Word) : (s.setReg16Stk p v).win = s.win := by cases p <;> rfl
@[simp] theorem State.setReg16Stk_eram (s : State) (p : Reg16Stk) (v : Word) : (s.setReg16Stk p v).eram = s.eram := by cases p <;> rfl
@[simp] theorem State.setReg16Stk_cart (s : State) (p : Reg16Stk) (v : Word) : (s.setReg16Stk p v).cart = s.cart := by cases p <;> rfl
@[simp] theorem State.setReg16Stk_fault (s : State) (p : Reg16Stk) (v : Word) : (s.setReg16Stk p v).fault = s.fault := by cases p <;> rfl
@[simp] theorem State.setReg16Stk_frameCycles (s : State) (p : Reg16Stk) (v : Word) : (s.setReg16Stk p v).frameCycles = s.frameCycles := by cases p <;> rfl
@[simp] theorem State.setReg16Stk_stepCycles (s : State) (p : Reg16Stk) (v : Word) : (s.setReg16Stk p v).stepCycles = s.stepCycles := by cases p <;> rfl
@[simp] theorem State.setReg16Stk_renderScript (s : State) (p : Reg16Stk) (v : Word) : (s.setReg16Stk p v).renderScript = s.renderScript := by cases p <;> rfl

theorem State.reg8_setReg8_same (s : State) (r : Reg8) (v : Byte) : (s.setReg8 r v).reg8 r = v := by cases r <;> rfl

theorem State.reg8_setReg8_other (s : State) (r q : Reg8) (v : Byte) (h : q ≠ r) : (s.setReg8 r v).reg8 q = s.reg8 q := by
  cases r <;> cases q <;> first | rfl | exact absurd rfl h

/-! ### The bus write -/

/-- All a write to 0x0000-0x7FFF can change: the banking registers (R61 to R64, D36). -/
theorem State.handleBanking_shape (s : State) (addr : Word) (v : Byte) :
    ∃ rb rk re rm, s.handleBanking addr v =
      { s with romBank := rb, ramBank := rk, ramEnabled := re, romBankingMode := rm } := by
  generalize ht : s.handleBanking addr v = t
  simp only [State.handleBanking, State.ramEnableWrite, State.lowBankSelect, State.highBankSelect, State.modeSelect] at ht
  repeat' split at ht
  all_goals subst ht; exact ⟨_, _, _, _, rfl⟩

/-- All a bus write can change: the arrays, the divider, the countdown and the banking registers (R57). -/
theorem State.memWrite_shape (s : State) (addr : Word) (v : Byte) :
    ∃ dv tc rb rk re rm w e, s.memWrite addr v =
      { s with
        divCounter := dv, timerCounter := tc, romBank := rb, ramBank := rk, ramEnabled := re, romBankingMode := rm,
        win := w, eram := e } := by
  obtain ⟨rb, rk, re, rm, hb⟩ := s.handleBanking_shape addr v
  generalize ht : s.memWrite addr v = t
  simp only [State.memWrite, hb, State.tacWrite] at ht
  repeat' split at ht
  all_goals subst ht; exact ⟨_, _, _, _, _, _, _, _, rfl⟩

@[simp] theorem State.memWrite_a (s : State) (addr : Word) (v : Byte) : (s.memWrite addr v).a = s.a := by
  obtain ⟨_, _, _, _, _, _, _, _, h⟩ := s.memWrite_shape addr v; rw [h]
@[simp] theorem State.memWrite_f (s : State) (addr : Word) (v : Byte) : (s.memWrite addr v).f = s.f := by
  obtain ⟨_, _, _, _, _, _, _, _, h⟩ := s.memWrite_shape addr v; rw [h]
@[simp] theorem State.memWrite_b (s : State) (addr : Word) (v : Byte) : (s.memWrite addr v).b = s.b := by
  obtain ⟨_, _, _, _, _, _, _, _, h⟩ := s.memWrite_shape addr v; rw [h]
@[simp] theorem State.memWrite_c (s : State) (addr : Word) (v : Byte) : (s.memWrite addr v).c = s.c := by
  obtain ⟨_, _, _, _, _, _, _, _, h⟩ := s.memWrite_shape addr v; rw [h]
@[simp] theorem State.memWrite_d (s : State) (addr : Word) (v : Byte) : (s.memWrite addr v).d = s.d := by
  obtain ⟨_, _, _, _, _, _, _, _, h⟩ := s.memWrite_shape addr v; rw [h]
@[simp] theorem State.memWrite_e (s : State) (addr : Word) (v : Byte) : (s.memWrite addr v).e = s.e := by
  obtain ⟨_, _, _, _, _, _, _, _, h⟩ := s.memWrite_shape addr v; rw [h]
@[simp] theorem State.memWrite_h (s : State) (addr : Word) (v : Byte) : (s.memWrite addr v).h = s.h := by
  obtain ⟨_, _, _, _, _, _, _, _, h⟩ := s.memWrite_shape addr v; rw [h]
@[simp] theorem State.memWrite_l (s : State) (addr : Word) (v : Byte) : (s.memWrite addr v).l = s.l := by
  obtain ⟨_, _, _, _, _, _, _, _, h⟩ := s.memWrite_shape addr v; rw [h]
@[simp] theorem State.memWrite_sp (s : State) (addr : Word) (v : Byte) : (s.memWrite addr v).sp = s.sp := by
  obtain ⟨_, _, _, _, _, _, _, _, h⟩ := s.memWrite_shape addr v; rw [h]
@[simp] theorem State.memWrite_pc (s : State) (addr : Word) (v : Byte) : (s.memWrite addr v).pc = s.pc := by
  obtain ⟨_, _, _, _, _, _, _, _, h⟩ := s.memWrite_shape addr v; rw [h]
@[simp] theorem State.memWrite_ime (s : State) (addr : Word) (v : Byte) : (s.memWrite addr v).ime = s.ime := by
  obtain ⟨_, _, _, _, _, _, _, _, h⟩ := s.memWrite_shape addr v; rw [h]
@[simp] theorem State.memWrite_eiPending (s : State) (addr : Word) (v : Byte) : (s.memWrite addr v).eiPending = s.eiPending := by
  obtain ⟨_, _, _, _, _, _, _, _, h⟩ := s.memWrite_shape addr v; rw [h]
@[simp] theorem State.memWrite_diPending (s : State) (addr : Word) (v : Byte) : (s.memWrite addr v).diPending = s.diPending := by
  obtain ⟨_, _, _, _, _, _, _, _, h⟩ := s.memWrite_shape addr v; rw [h]
@[simp] theorem State.memWrite_halted (s : State) (addr : Word) (v : Byte) : (s.memWrite addr v).halted = s.halted := by
  obtain ⟨_, _, _, _, _, _, _, _, h⟩ := s.memWrite_shape addr v; rw [h]
@[simp] theorem State.memWrite_joyLatch (s : State) (addr : Word) (v : Byte) : (s.memWrite addr v).joyLatch = s.joyLatch := by
  obtain ⟨_, _, _, _, _, _, _, _, h⟩ := s.memWrite_shape addr v; rw [h]
@[simp] theorem State.memWrite_mbc (s : State) (addr : Word) (v : Byte) : (s.memWrite addr v).mbc = s.mbc := by
  obtain ⟨_, _, _, _, _, _, _, _, h⟩ := s.memWrite_shape addr v; rw [h]
@[simp] theorem State.memWrite_cart (s : State) (addr : Word) (v : Byte) : (s.memWrite addr v).cart = s.cart := by
  obtain ⟨_, _, _, _, _, _, _, _, h⟩ := s.memWrite_shape addr v; rw [h]
@[simp] theorem State.memWrite_fault (s : State) (addr : Word) (v : Byte) : (s.memWrite addr v).fault = s.fault := by
  obtain ⟨_, _, _, _, _, _, _, _, h⟩ := s.memWrite_shape addr v; rw [h]
@[simp] theorem State.memWrite_frameCycles (s : State) (addr : Word) (v : Byte) : (s.memWrite addr v).frameCycles = s.frameCycles := by
  obtain ⟨_, _, _, _, _, _, _, _, h⟩ := s.memWrite_shape addr v; rw [h]
@[simp] theorem State.memWrite_stepCycles (s : State) (addr : Word) (v : Byte) : (s.memWrite addr v).stepCycles = s.stepCycles := by
  obtain ⟨_, _, _, _, _, _, _, _, h⟩ := s.memWrite_shape addr v; rw [h]
@[simp] theorem State.memWrite_renderScript (s : State) (addr : Word) (v : Byte) : (s.memWrite addr v).renderScript = s.renderScript := by
  obtain ⟨_, _, _, _, _, _, _, _, h⟩ := s.memWrite_shape addr v; rw [h]

/-! ### Pushing and servicing -/

@[simp] theorem State.push16_sp (s : State) (v : Word) : (s.push16 v).sp = s.sp - 1 - 1 := by simp [State.push16]
@[simp] theorem State.push16_a (s : State) (v : Word) : (s.push16 v).a = s.a := by simp [State.push16]
@[simp] theorem State.push16_f (s : State) (v : Word) : (s.push16 v).f = s.f := by simp [State.push16]
@[simp] theorem State.push16_b (s : State) (v : Word) : (s.push16 v).b = s.b := by simp [State.push16]
@[simp] theorem State.push16_c (s : State) (v : Word) : (s.push16 v).c = s.c := by simp [State.push16]
@[simp] theorem State.push16_d (s : State) (v : Word) : (s.push16 v).d = s.d := by simp [State.push16]
@[simp] theorem State.push16_e (s : State) (v : Word) : (s.push16 v).e = s.e := by simp [State.push16]
@[simp] theorem State.push16_h (s : State) (v : Word) : (s.push16 v).h = s.h := by simp [State.push16]
@[simp] theorem State.push16_l (s : State) (v : Word) : (s.push16 v).l = s.l := by simp [State.push16]
@[simp] theorem State.push16_pc (s : State) (v : Word) : (s.push16 v).pc = s.pc := by simp [State.push16]
@[simp] theorem State.push16_ime (s : State) (v : Word) : (s.push16 v).ime = s.ime := by simp [State.push16]
@[simp] theorem State.push16_eiPending (s : State) (v : Word) : (s.push16 v).eiPending = s.eiPending := by simp [State.push16]
@[simp] theorem State.push16_diPending (s : State) (v : Word) : (s.push16 v).diPending = s.diPending := by simp [State.push16]
@[simp] theorem State.push16_halted (s : State) (v : Word) : (s.push16 v).halted = s.halted := by simp [State.push16]
@[simp] theorem State.push16_joyLatch (s : State) (v : Word) : (s.push16 v).joyLatch = s.joyLatch := by simp [State.push16]
@[simp] theorem State.push16_mbc (s : State) (v : Word) : (s.push16 v).mbc = s.mbc := by simp [State.push16]
@[simp] theorem State.push16_cart (s : State) (v : Word) : (s.push16 v).cart = s.cart := by simp [State.push16]
@[simp] theorem State.push16_fault (s : State) (v : Word) : (s.push16 v).fault = s.fault := by simp [State.push16]
@[simp] theorem State.push16_frameCycles (s : State) (v : Word) : (s.push16 v).frameCycles = s.frameCycles := by simp [State.push16]
@[simp] theorem State.push16_stepCycles (s : State) (v : Word) : (s.push16 v).stepCycles = s.stepCycles := by simp [State.push16]
@[simp] theorem State.push16_renderScript (s : State) (v : Word) : (s.push16 v).renderScript = s.renderScript := by simp [State.push16]

@[simp] theorem State.service_ime (s : State) (n : IrqSource) : (s.service n).ime = false := by simp [State.service]
@[simp] theorem State.service_halted (s : State) (n : IrqSource) : (s.service n).halted = false := by simp [State.service]
@[simp] theorem State.service_pc (s : State) (n : IrqSource) : (s.service n).pc = n.vector := by simp [State.service]
@[simp] theorem State.service_sp (s : State) (n : IrqSource) : (s.service n).sp = s.sp - 1 - 1 := by simp [State.service]
@[simp] theorem State.service_a (s : State) (n : IrqSource) : (s.service n).a = s.a := by simp [State.service]
@[simp] theorem State.service_f (s : State) (n : IrqSource) : (s.service n).f = s.f := by simp [State.service]
@[simp] theorem State.service_b (s : State) (n : IrqSource) : (s.service n).b = s.b := by simp [State.service]
@[simp] theorem State.service_c (s : State) (n : IrqSource) : (s.service n).c = s.c := by simp [State.service]
@[simp] theorem State.service_d (s : State) (n : IrqSource) : (s.service n).d = s.d := by simp [State.service]
@[simp] theorem State.service_e (s : State) (n : IrqSource) : (s.service n).e = s.e := by simp [State.service]
@[simp] theorem State.service_h (s : State) (n : IrqSource) : (s.service n).h = s.h := by simp [State.service]
@[simp] theorem State.service_l (s : State) (n : IrqSource) : (s.service n).l = s.l := by simp [State.service]
@[simp] theorem State.service_eiPending (s : State) (n : IrqSource) : (s.service n).eiPending = s.eiPending := by simp [State.service]
@[simp] theorem State.service_diPending (s : State) (n : IrqSource) : (s.service n).diPending = s.diPending := by simp [State.service]
@[simp] theorem State.service_joyLatch (s : State) (n : IrqSource) : (s.service n).joyLatch = s.joyLatch := by simp [State.service]
@[simp] theorem State.service_mbc (s : State) (n : IrqSource) : (s.service n).mbc = s.mbc := by simp [State.service]
@[simp] theorem State.service_cart (s : State) (n : IrqSource) : (s.service n).cart = s.cart := by simp [State.service]
@[simp] theorem State.service_fault (s : State) (n : IrqSource) : (s.service n).fault = s.fault := by simp [State.service]
@[simp] theorem State.service_frameCycles (s : State) (n : IrqSource) : (s.service n).frameCycles = s.frameCycles := by simp [State.service]
@[simp] theorem State.service_stepCycles (s : State) (n : IrqSource) : (s.service n).stepCycles = s.stepCycles := by simp [State.service]
@[simp] theorem State.service_renderScript (s : State) (n : IrqSource) : (s.service n).renderScript = s.renderScript := by simp [State.service]

/-! ### The timer unit, RENDER's requests and the pending flags -/

@[simp] theorem State.tick_a (s : State) (cyc : Nat) : (s.tick cyc).a = s.a := by
  simp only [State.tick, State.tickTimer]; repeat' split
  all_goals simp
@[simp] theorem State.tick_f (s : State) (cyc : Nat) : (s.tick cyc).f = s.f := by
  simp only [State.tick, State.tickTimer]; repeat' split
  all_goals simp
@[simp] theorem State.tick_b (s : State) (cyc : Nat) : (s.tick cyc).b = s.b := by
  simp only [State.tick, State.tickTimer]; repeat' split
  all_goals simp
@[simp] theorem State.tick_c (s : State) (cyc : Nat) : (s.tick cyc).c = s.c := by
  simp only [State.tick, State.tickTimer]; repeat' split
  all_goals simp
@[simp] theorem State.tick_d (s : State) (cyc : Nat) : (s.tick cyc).d = s.d := by
  simp only [State.tick, State.tickTimer]; repeat' split
  all_goals simp
@[simp] theorem State.tick_e (s : State) (cyc : Nat) : (s.tick cyc).e = s.e := by
  simp only [State.tick, State.tickTimer]; repeat' split
  all_goals simp
@[simp] theorem State.tick_h (s : State) (cyc : Nat) : (s.tick cyc).h = s.h := by
  simp only [State.tick, State.tickTimer]; repeat' split
  all_goals simp
@[simp] theorem State.tick_l (s : State) (cyc : Nat) : (s.tick cyc).l = s.l := by
  simp only [State.tick, State.tickTimer]; repeat' split
  all_goals simp
@[simp] theorem State.tick_sp (s : State) (cyc : Nat) : (s.tick cyc).sp = s.sp := by
  simp only [State.tick, State.tickTimer]; repeat' split
  all_goals simp
@[simp] theorem State.tick_pc (s : State) (cyc : Nat) : (s.tick cyc).pc = s.pc := by
  simp only [State.tick, State.tickTimer]; repeat' split
  all_goals simp
@[simp] theorem State.tick_ime (s : State) (cyc : Nat) : (s.tick cyc).ime = s.ime := by
  simp only [State.tick, State.tickTimer]; repeat' split
  all_goals simp
@[simp] theorem State.tick_eiPending (s : State) (cyc : Nat) : (s.tick cyc).eiPending = s.eiPending := by
  simp only [State.tick, State.tickTimer]; repeat' split
  all_goals simp
@[simp] theorem State.tick_diPending (s : State) (cyc : Nat) : (s.tick cyc).diPending = s.diPending := by
  simp only [State.tick, State.tickTimer]; repeat' split
  all_goals simp
@[simp] theorem State.tick_halted (s : State) (cyc : Nat) : (s.tick cyc).halted = s.halted := by
  simp only [State.tick, State.tickTimer]; repeat' split
  all_goals simp
@[simp] theorem State.tick_joyLatch (s : State) (cyc : Nat) : (s.tick cyc).joyLatch = s.joyLatch := by
  simp only [State.tick, State.tickTimer]; repeat' split
  all_goals simp
@[simp] theorem State.tick_mbc (s : State) (cyc : Nat) : (s.tick cyc).mbc = s.mbc := by
  simp only [State.tick, State.tickTimer]; repeat' split
  all_goals simp
@[simp] theorem State.tick_romBank (s : State) (cyc : Nat) : (s.tick cyc).romBank = s.romBank := by
  simp only [State.tick, State.tickTimer]; repeat' split
  all_goals simp
@[simp] theorem State.tick_ramBank (s : State) (cyc : Nat) : (s.tick cyc).ramBank = s.ramBank := by
  simp only [State.tick, State.tickTimer]; repeat' split
  all_goals simp
@[simp] theorem State.tick_ramEnabled (s : State) (cyc : Nat) : (s.tick cyc).ramEnabled = s.ramEnabled := by
  simp only [State.tick, State.tickTimer]; repeat' split
  all_goals simp
@[simp] theorem State.tick_romBankingMode (s : State) (cyc : Nat) : (s.tick cyc).romBankingMode = s.romBankingMode := by
  simp only [State.tick, State.tickTimer]; repeat' split
  all_goals simp
@[simp] theorem State.tick_eram (s : State) (cyc : Nat) : (s.tick cyc).eram = s.eram := by
  simp only [State.tick, State.tickTimer]; repeat' split
  all_goals simp
@[simp] theorem State.tick_cart (s : State) (cyc : Nat) : (s.tick cyc).cart = s.cart := by
  simp only [State.tick, State.tickTimer]; repeat' split
  all_goals simp
@[simp] theorem State.tick_fault (s : State) (cyc : Nat) : (s.tick cyc).fault = s.fault := by
  simp only [State.tick, State.tickTimer]; repeat' split
  all_goals simp
@[simp] theorem State.tick_frameCycles (s : State) (cyc : Nat) : (s.tick cyc).frameCycles = s.frameCycles := by
  simp only [State.tick, State.tickTimer]; repeat' split
  all_goals simp
@[simp] theorem State.tick_stepCycles (s : State) (cyc : Nat) : (s.tick cyc).stepCycles = s.stepCycles := by
  simp only [State.tick, State.tickTimer]; repeat' split
  all_goals simp
@[simp] theorem State.tick_renderScript (s : State) (cyc : Nat) : (s.tick cyc).renderScript = s.renderScript := by
  simp only [State.tick, State.tickTimer]; repeat' split
  all_goals simp

@[simp] theorem State.tick_divCounter (s : State) (cyc : Nat) :
    (s.tick cyc).divCounter = s.divCounter + BitVec.ofNat 16 cyc := by
  simp only [State.tick, State.tickTimer]; repeat' split
  all_goals simp

@[simp] theorem State.applyAnswer_a (s : State) (ans : RenderAnswer) : (s.applyAnswer ans).a = s.a := by
  simp only [State.applyAnswer]; repeat' split
  all_goals simp
@[simp] theorem State.applyAnswer_f (s : State) (ans : RenderAnswer) : (s.applyAnswer ans).f = s.f := by
  simp only [State.applyAnswer]; repeat' split
  all_goals simp
@[simp] theorem State.applyAnswer_b (s : State) (ans : RenderAnswer) : (s.applyAnswer ans).b = s.b := by
  simp only [State.applyAnswer]; repeat' split
  all_goals simp
@[simp] theorem State.applyAnswer_c (s : State) (ans : RenderAnswer) : (s.applyAnswer ans).c = s.c := by
  simp only [State.applyAnswer]; repeat' split
  all_goals simp
@[simp] theorem State.applyAnswer_d (s : State) (ans : RenderAnswer) : (s.applyAnswer ans).d = s.d := by
  simp only [State.applyAnswer]; repeat' split
  all_goals simp
@[simp] theorem State.applyAnswer_e (s : State) (ans : RenderAnswer) : (s.applyAnswer ans).e = s.e := by
  simp only [State.applyAnswer]; repeat' split
  all_goals simp
@[simp] theorem State.applyAnswer_h (s : State) (ans : RenderAnswer) : (s.applyAnswer ans).h = s.h := by
  simp only [State.applyAnswer]; repeat' split
  all_goals simp
@[simp] theorem State.applyAnswer_l (s : State) (ans : RenderAnswer) : (s.applyAnswer ans).l = s.l := by
  simp only [State.applyAnswer]; repeat' split
  all_goals simp
@[simp] theorem State.applyAnswer_sp (s : State) (ans : RenderAnswer) : (s.applyAnswer ans).sp = s.sp := by
  simp only [State.applyAnswer]; repeat' split
  all_goals simp
@[simp] theorem State.applyAnswer_pc (s : State) (ans : RenderAnswer) : (s.applyAnswer ans).pc = s.pc := by
  simp only [State.applyAnswer]; repeat' split
  all_goals simp
@[simp] theorem State.applyAnswer_ime (s : State) (ans : RenderAnswer) : (s.applyAnswer ans).ime = s.ime := by
  simp only [State.applyAnswer]; repeat' split
  all_goals simp
@[simp] theorem State.applyAnswer_eiPending (s : State) (ans : RenderAnswer) : (s.applyAnswer ans).eiPending = s.eiPending := by
  simp only [State.applyAnswer]; repeat' split
  all_goals simp
@[simp] theorem State.applyAnswer_diPending (s : State) (ans : RenderAnswer) : (s.applyAnswer ans).diPending = s.diPending := by
  simp only [State.applyAnswer]; repeat' split
  all_goals simp
@[simp] theorem State.applyAnswer_halted (s : State) (ans : RenderAnswer) : (s.applyAnswer ans).halted = s.halted := by
  simp only [State.applyAnswer]; repeat' split
  all_goals simp
@[simp] theorem State.applyAnswer_divCounter (s : State) (ans : RenderAnswer) : (s.applyAnswer ans).divCounter = s.divCounter := by
  simp only [State.applyAnswer]; repeat' split
  all_goals simp
@[simp] theorem State.applyAnswer_timerCounter (s : State) (ans : RenderAnswer) : (s.applyAnswer ans).timerCounter = s.timerCounter := by
  simp only [State.applyAnswer]; repeat' split
  all_goals simp
@[simp] theorem State.applyAnswer_joyLatch (s : State) (ans : RenderAnswer) : (s.applyAnswer ans).joyLatch = s.joyLatch := by
  simp only [State.applyAnswer]; repeat' split
  all_goals simp
@[simp] theorem State.applyAnswer_mbc (s : State) (ans : RenderAnswer) : (s.applyAnswer ans).mbc = s.mbc := by
  simp only [State.applyAnswer]; repeat' split
  all_goals simp
@[simp] theorem State.applyAnswer_romBank (s : State) (ans : RenderAnswer) : (s.applyAnswer ans).romBank = s.romBank := by
  simp only [State.applyAnswer]; repeat' split
  all_goals simp
@[simp] theorem State.applyAnswer_ramBank (s : State) (ans : RenderAnswer) : (s.applyAnswer ans).ramBank = s.ramBank := by
  simp only [State.applyAnswer]; repeat' split
  all_goals simp
@[simp] theorem State.applyAnswer_ramEnabled (s : State) (ans : RenderAnswer) : (s.applyAnswer ans).ramEnabled = s.ramEnabled := by
  simp only [State.applyAnswer]; repeat' split
  all_goals simp
@[simp] theorem State.applyAnswer_romBankingMode (s : State) (ans : RenderAnswer) : (s.applyAnswer ans).romBankingMode = s.romBankingMode := by
  simp only [State.applyAnswer]; repeat' split
  all_goals simp
@[simp] theorem State.applyAnswer_eram (s : State) (ans : RenderAnswer) : (s.applyAnswer ans).eram = s.eram := by
  simp only [State.applyAnswer]; repeat' split
  all_goals simp
@[simp] theorem State.applyAnswer_cart (s : State) (ans : RenderAnswer) : (s.applyAnswer ans).cart = s.cart := by
  simp only [State.applyAnswer]; repeat' split
  all_goals simp
@[simp] theorem State.applyAnswer_fault (s : State) (ans : RenderAnswer) : (s.applyAnswer ans).fault = s.fault := by
  simp only [State.applyAnswer]; repeat' split
  all_goals simp
@[simp] theorem State.applyAnswer_frameCycles (s : State) (ans : RenderAnswer) : (s.applyAnswer ans).frameCycles = s.frameCycles := by
  simp only [State.applyAnswer]; repeat' split
  all_goals simp
@[simp] theorem State.applyAnswer_stepCycles (s : State) (ans : RenderAnswer) : (s.applyAnswer ans).stepCycles = s.stepCycles := by
  simp only [State.applyAnswer]; repeat' split
  all_goals simp
@[simp] theorem State.applyAnswer_renderScript (s : State) (ans : RenderAnswer) : (s.applyAnswer ans).renderScript = s.renderScript := by
  simp only [State.applyAnswer]; repeat' split
  all_goals simp

@[simp] theorem State.resolvePending_a (s : State) (op : Byte) : (s.resolvePending op).a = s.a := by
  simp only [State.resolvePending]; repeat' split
  all_goals rfl
@[simp] theorem State.resolvePending_f (s : State) (op : Byte) : (s.resolvePending op).f = s.f := by
  simp only [State.resolvePending]; repeat' split
  all_goals rfl
@[simp] theorem State.resolvePending_b (s : State) (op : Byte) : (s.resolvePending op).b = s.b := by
  simp only [State.resolvePending]; repeat' split
  all_goals rfl
@[simp] theorem State.resolvePending_c (s : State) (op : Byte) : (s.resolvePending op).c = s.c := by
  simp only [State.resolvePending]; repeat' split
  all_goals rfl
@[simp] theorem State.resolvePending_d (s : State) (op : Byte) : (s.resolvePending op).d = s.d := by
  simp only [State.resolvePending]; repeat' split
  all_goals rfl
@[simp] theorem State.resolvePending_e (s : State) (op : Byte) : (s.resolvePending op).e = s.e := by
  simp only [State.resolvePending]; repeat' split
  all_goals rfl
@[simp] theorem State.resolvePending_h (s : State) (op : Byte) : (s.resolvePending op).h = s.h := by
  simp only [State.resolvePending]; repeat' split
  all_goals rfl
@[simp] theorem State.resolvePending_l (s : State) (op : Byte) : (s.resolvePending op).l = s.l := by
  simp only [State.resolvePending]; repeat' split
  all_goals rfl
@[simp] theorem State.resolvePending_sp (s : State) (op : Byte) : (s.resolvePending op).sp = s.sp := by
  simp only [State.resolvePending]; repeat' split
  all_goals rfl
@[simp] theorem State.resolvePending_pc (s : State) (op : Byte) : (s.resolvePending op).pc = s.pc := by
  simp only [State.resolvePending]; repeat' split
  all_goals rfl
@[simp] theorem State.resolvePending_halted (s : State) (op : Byte) : (s.resolvePending op).halted = s.halted := by
  simp only [State.resolvePending]; repeat' split
  all_goals rfl
@[simp] theorem State.resolvePending_divCounter (s : State) (op : Byte) : (s.resolvePending op).divCounter = s.divCounter := by
  simp only [State.resolvePending]; repeat' split
  all_goals rfl
@[simp] theorem State.resolvePending_timerCounter (s : State) (op : Byte) : (s.resolvePending op).timerCounter = s.timerCounter := by
  simp only [State.resolvePending]; repeat' split
  all_goals rfl
@[simp] theorem State.resolvePending_joyLatch (s : State) (op : Byte) : (s.resolvePending op).joyLatch = s.joyLatch := by
  simp only [State.resolvePending]; repeat' split
  all_goals rfl
@[simp] theorem State.resolvePending_mbc (s : State) (op : Byte) : (s.resolvePending op).mbc = s.mbc := by
  simp only [State.resolvePending]; repeat' split
  all_goals rfl
@[simp] theorem State.resolvePending_romBank (s : State) (op : Byte) : (s.resolvePending op).romBank = s.romBank := by
  simp only [State.resolvePending]; repeat' split
  all_goals rfl
@[simp] theorem State.resolvePending_ramBank (s : State) (op : Byte) : (s.resolvePending op).ramBank = s.ramBank := by
  simp only [State.resolvePending]; repeat' split
  all_goals rfl
@[simp] theorem State.resolvePending_ramEnabled (s : State) (op : Byte) : (s.resolvePending op).ramEnabled = s.ramEnabled := by
  simp only [State.resolvePending]; repeat' split
  all_goals rfl
@[simp] theorem State.resolvePending_romBankingMode (s : State) (op : Byte) : (s.resolvePending op).romBankingMode = s.romBankingMode := by
  simp only [State.resolvePending]; repeat' split
  all_goals rfl
@[simp] theorem State.resolvePending_win (s : State) (op : Byte) : (s.resolvePending op).win = s.win := by
  simp only [State.resolvePending]; repeat' split
  all_goals rfl
@[simp] theorem State.resolvePending_eram (s : State) (op : Byte) : (s.resolvePending op).eram = s.eram := by
  simp only [State.resolvePending]; repeat' split
  all_goals rfl
@[simp] theorem State.resolvePending_cart (s : State) (op : Byte) : (s.resolvePending op).cart = s.cart := by
  simp only [State.resolvePending]; repeat' split
  all_goals rfl
@[simp] theorem State.resolvePending_fault (s : State) (op : Byte) : (s.resolvePending op).fault = s.fault := by
  simp only [State.resolvePending]; repeat' split
  all_goals rfl
@[simp] theorem State.resolvePending_frameCycles (s : State) (op : Byte) : (s.resolvePending op).frameCycles = s.frameCycles := by
  simp only [State.resolvePending]; repeat' split
  all_goals rfl
@[simp] theorem State.resolvePending_stepCycles (s : State) (op : Byte) : (s.resolvePending op).stepCycles = s.stepCycles := by
  simp only [State.resolvePending]; repeat' split
  all_goals rfl
@[simp] theorem State.resolvePending_renderScript (s : State) (op : Byte) : (s.resolvePending op).renderScript = s.renderScript := by
  simp only [State.resolvePending]; repeat' split
  all_goals rfl

end Sys2Proof.Machine
end

