-- ==== Sys2Proof/Laws/Memory.lean ====
section
/-! SUPPORT. The laws of the storage arrays: a read after a write, the canonical form and that equal contents are equal data,
and that every operation over memory keeps the form. -/

namespace Sys2Proof.Machine

/-! ### Read after write -/

theorem Memory.read_of_not_listed (st : Storage) (m : Memory) (n : Nat) (h : ∀ x ∈ m, x.1 ≠ n) :
    Memory.read st m n = st.unlisted n := by
  induction m with
  | nil => rfl
  | cons x m ih =>
    obtain ⟨k, w⟩ := x
    have hk : n ≠ k := fun e => h (k, w) (by simp) e.symm
    simp [Memory.read, hk, ih (fun y hy => h y (by simp [hy]))]

theorem Memory.read_filter_other (st : Storage) (m : Memory) (n k : Nat) (h : k ≠ n) :
    Memory.read st (m.filter (fun x => x.1 != n)) k = Memory.read st m k := by
  induction m with
  | nil => rfl
  | cons x m ih =>
    obtain ⟨j, w⟩ := x
    by_cases hj : j = n
    · subst hj; simp [Memory.read, h, ih]
    · by_cases hk : k = j <;> simp [Memory.read, hj, hk, ih]

theorem Memory.read_filter_same (st : Storage) (m : Memory) (n : Nat) :
    Memory.read st (m.filter (fun x => x.1 != n)) n = st.unlisted n :=
  Memory.read_of_not_listed st _ n (by simp)

theorem Memory.read_insert_same (st : Storage) (m : Memory) (n : Nat) (v : Byte) (h : ∀ x ∈ m, x.1 ≠ n) :
    Memory.read st (Memory.insert m n v) n = v := by
  induction m with
  | nil => simp [Memory.insert, Memory.read]
  | cons x m ih =>
    obtain ⟨k, w⟩ := x
    have hk : n ≠ k := fun e => h (k, w) (by simp) e.symm
    by_cases hlt : n < k
    · simp [Memory.insert, hlt, Memory.read]
    · simp [Memory.insert, hlt, Memory.read, hk, ih (fun y hy => h y (by simp [hy]))]

theorem Memory.read_insert_other (st : Storage) (m : Memory) (n k : Nat) (v : Byte) (h : k ≠ n) :
    Memory.read st (Memory.insert m n v) k = Memory.read st m k := by
  induction m with
  | nil => simp [Memory.insert, Memory.read, h]
  | cons x m ih =>
    obtain ⟨j, w⟩ := x
    by_cases hlt : n < j
    · simp [Memory.insert, hlt, Memory.read, h]
    · simp [Memory.insert, hlt, Memory.read, ih]

/-- A read after a write to the same index gives the value written. -/
theorem Memory.read_write_same (st : Storage) (m : Memory) (n : Nat) (v : Byte) :
    Memory.read st (Memory.write st m n v) n = v := by
  unfold Memory.write
  split
  · next h => rw [Memory.read_filter_same, h]
  · exact Memory.read_insert_same st _ n v (by simp)

/-- A write leaves every other index alone. -/
theorem Memory.read_write_other (st : Storage) (m : Memory) (n k : Nat) (v : Byte) (h : k ≠ n) :
    Memory.read st (Memory.write st m n v) k = Memory.read st m k := by
  unfold Memory.write
  split
  · exact Memory.read_filter_other st m n k h
  · rw [Memory.read_insert_other st _ n k v h, Memory.read_filter_other st m n k h]

theorem Memory.read_write (st : Storage) (m : Memory) (n k : Nat) (v : Byte) :
    Memory.read st (Memory.write st m n v) k = if k = n then v else Memory.read st m k := by
  split
  · next h => rw [h, Memory.read_write_same]
  · next h => exact Memory.read_write_other st m n k v h

/-! ### The canonical form -/

theorem Memory.nil_wf (st : Storage) : Memory.wf st [] := by simp [Memory.wf]

theorem Memory.filter_wf (st : Storage) (m : Memory) (p : Host.Cell → Bool) (h : Memory.wf st m) :
    Memory.wf st (m.filter p) :=
  ⟨h.1.sublist List.filter_sublist, fun x hx => h.2 x (List.mem_of_mem_filter hx)⟩

theorem Memory.mem_insert (m : Memory) (n : Nat) (v : Byte) (x : Host.Cell) :
    x ∈ Memory.insert m n v ↔ x = (n, v) ∨ x ∈ m := by
  induction m with
  | nil => simp [Memory.insert]
  | cons y m ih =>
    obtain ⟨k, w⟩ := y
    by_cases hlt : n < k
    · simp [Memory.insert, hlt]
    · simp only [Memory.insert, hlt, if_false, List.mem_cons, ih]; tauto

theorem Memory.insert_wf (st : Storage) (m : Memory) (n : Nat) (v : Byte) (h : Memory.wf st m) (hn : n < st.size)
    (hv : v ≠ st.unlisted n) (hfree : ∀ x ∈ m, x.1 ≠ n) : Memory.wf st (Memory.insert m n v) := by
  refine ⟨?_, fun x hx => ?_⟩
  · have hs := h.1
    clear h
    induction m with
    | nil => simp [Memory.insert]
    | cons y m ih =>
      obtain ⟨k, w⟩ := y
      rw [List.pairwise_cons] at hs
      by_cases hlt : n < k
      · simp only [Memory.insert, hlt, if_true, List.pairwise_cons, List.mem_cons]
        exact ⟨fun x hx => by rcases hx with rfl | hx; exacts [hlt, Nat.lt_trans hlt (hs.1 x hx)], hs⟩
      · have hk : k < n := Nat.lt_of_le_of_ne (Nat.le_of_not_lt hlt) (hfree (k, w) (by simp))
        simp only [Memory.insert, hlt, if_false, List.pairwise_cons]
        refine ⟨fun x hx => ?_, ih (fun x hx => hfree x (by simp [hx])) hs.2⟩
        rcases (Memory.mem_insert m n v x).mp hx with rfl | hx
        exacts [hk, hs.1 x hx]
  · rcases (Memory.mem_insert m n v x).mp hx with rfl | hx
    exacts [⟨hn, hv⟩, h.2 x hx]

/-- A write keeps the canonical form. -/
theorem Memory.write_wf (st : Storage) (m : Memory) (n : Nat) (v : Byte) (h : Memory.wf st m) (hn : n < st.size) :
    Memory.wf st (Memory.write st m n v) := by
  unfold Memory.write
  split
  · exact Memory.filter_wf st m _ h
  · next hv => exact Memory.insert_wf st _ n v (Memory.filter_wf st m _ h) hn hv (by simp)

/-- A listed index reads as its entry, which is not what an unlisted one reads as. -/
theorem Memory.read_of_mem (st : Storage) (m : Memory) (h : Memory.wf st m) (x : Host.Cell) (hx : x ∈ m) :
    Memory.read st m x.1 = x.2 := by
  induction m with
  | nil => cases hx
  | cons y m ih =>
    obtain ⟨k, w⟩ := y
    obtain ⟨hs, hv⟩ := h
    rw [List.pairwise_cons] at hs
    rcases List.mem_cons.mp hx with rfl | hm
    · simp [Memory.read]
    · have hk : x.1 ≠ k := (Nat.ne_of_lt (hs.1 x hm)).symm
      simp [Memory.read, hk, ih ⟨hs.2, fun z hz => hv z (by simp [hz])⟩ hm]

/-- Equal contents are equal data: two arrays in canonical form that read alike are the same list. -/
theorem Memory.ext_of_wf (st : Storage) (m m' : Memory) (h : Memory.wf st m) (h' : Memory.wf st m')
    (hr : ∀ n, Memory.read st m n = Memory.read st m' n) : m = m' := by
  have key : ∀ (p q : Memory), Memory.wf st p → Memory.wf st q → (∀ n, Memory.read st p n = Memory.read st q n) →
      ∀ x ∈ p, x ∈ q := by
    intro p q hp hq hpq x hx
    by_contra hne
    have hread := Memory.read_of_mem st p hp x hx
    by_cases hk : ∃ y ∈ q, y.1 = x.1
    · obtain ⟨y, hy, hyx⟩ := hk
      have := Memory.read_of_mem st q hq y hy
      rw [hyx, ← hpq, hread] at this
      exact hne (by have e : x = y := Prod.ext hyx.symm this; rw [e]; exact hy)
    · push Not at hk
      rw [hpq, Memory.read_of_not_listed st q x.1 hk] at hread
      exact (hp.2 x hx).2 hread.symm
  have hperm : m.Perm m' := by
    refine (List.perm_ext_iff_of_nodup ?_ ?_).mpr fun x => ⟨key m m' h h' hr x, key m' m h' h (fun n => (hr n).symm) x⟩
    · exact h.1.imp fun hlt e => by rw [e] at hlt; exact Nat.lt_irrefl _ hlt
    · exact h'.1.imp fun hlt e => by rw [e] at hlt; exact Nat.lt_irrefl _ hlt
  exact hperm.eq_of_pairwise (fun a b _ _ hab hba => absurd hab (Nat.lt_asymm hba)) h.1 h'.1

end Sys2Proof.Machine
end

