-- ==== Sys2Proof/Laws/Bus.lean ====
section
/-! SUPPORT. What each shared operation over the bus can do, said once: MemWrite, the stack, requests, taking an interrupt, the
timer unit and the poll, and that every one of them keeps the arrays in canonical form. -/

namespace Sys2Proof.Machine

/-! ### MemWrite by region (R57) -/

theorem State.memWrite_banking (s : State) (a : Word) (v : Byte) (h : a.toNat ≤ 0x7FFF) :
    s.memWrite a v = s.handleBanking a v := by simp [State.memWrite, h]

theorem State.memWrite_external (s : State) (a : Word) (v : Byte) (h : 0xA000 ≤ a.toNat) (h' : a.toNat ≤ 0xBFFF) :
    s.memWrite a v = if s.ramEnabled then s.setEram (s.eramIndex a) v else s := by
  unfold State.memWrite
  rw [if_neg (by omega), if_neg (by omega), if_pos h']

theorem State.memWrite_echo (s : State) (a : Word) (v : Byte) (h : 0xE000 ≤ a.toNat) (h' : a.toNat ≤ 0xFDFF) :
    s.memWrite a v = s.setWin (a - 0x2000) v := by
  unfold State.memWrite
  rw [if_neg (by omega), if_neg (by omega), if_neg (by omega), if_neg (by omega), if_pos h']

theorem State.memWrite_restricted (s : State) (a : Word) (v : Byte) (h : 0xFEA0 ≤ a.toNat) (h' : a.toNat ≤ 0xFEFE) :
    s.memWrite a v = s := by
  unfold State.memWrite
  rw [if_neg (by omega), if_neg (by omega), if_neg (by omega), if_neg (by omega), if_neg (by omega), if_neg (by omega), if_pos h']

theorem State.memWrite_div (s : State) (v : Byte) : s.memWrite 0xFF04 v = { s with divCounter := 0 } := rfl

theorem State.memWrite_tac (s : State) (v : Byte) : s.memWrite 0xFF07 v = s.tacWrite v := rfl

/-- A write of TAC: its byte, and the countdown (R69). -/
theorem State.tacWrite_eq (s : State) (v : Byte) :
    s.tacWrite v =
      { s.setWin 0xFF07 v with
        timerCounter := if v &&& 0x03 = s.winByte 0xFF07 &&& 0x03 then s.timerCounter else timerPeriod v } := by
  have e : addrTAC = 0xFF07 := rfl
  simp only [State.tacWrite, e]
  split <;> simp [State.setWin]

theorem State.memWrite_window (s : State) (a : Word) (v : Byte) (h : plainAddr a) (he : a.toNat < 0xE000 ∨ 0xFDFF < a.toNat)
    (ht : a ≠ 0xFF07) : s.memWrite a v = s.setWin a v := by
  have hd : ¬ a = addrDIV := fun e => by subst e; exact absurd h (by decide)
  have hc : ¬ a = addrTAC := ht
  unfold State.memWrite
  rw [if_neg hd, if_neg hc]
  split_ifs <;> first | omega | rfl

/-- The regions of a bus write. -/
theorem addr_cases (a : Word) :
    a.toNat ≤ 0x7FFF ∨ (0xA000 ≤ a.toNat ∧ a.toNat ≤ 0xBFFF) ∨ (0xE000 ≤ a.toNat ∧ a.toNat ≤ 0xFDFF) ∨
      (0xFEA0 ≤ a.toNat ∧ a.toNat ≤ 0xFEFE) ∨ a = 0xFF04 ∨ a = 0xFF07 ∨ a = 0xFF00 ∨
      (plainAddr a ∧ (a.toNat < 0xE000 ∨ 0xFDFF < a.toNat) ∧ a ≠ 0xFF07) := by
  have := a.isLt
  have e4 : a = 0xFF04 ↔ a.toNat = 0xFF04 := ⟨fun h => by rw [h]; rfl, fun h => BitVec.eq_of_toNat_eq h⟩
  have e7 : a = 0xFF07 ↔ a.toNat = 0xFF07 := ⟨fun h => by rw [h]; rfl, fun h => BitVec.eq_of_toNat_eq h⟩
  have e0 : a = 0xFF00 ↔ a.toNat = 0xFF00 := ⟨fun h => by rw [h]; rfl, fun h => BitVec.eq_of_toNat_eq h⟩
  simp only [plainAddr, ne_eq, e4, e7, e0]
  omega

theorem State.memWrite_p1 (s : State) (v : Byte) : s.memWrite 0xFF00 v = s.setWin 0xFF00 v := rfl

/-! ### The cells a bus write changes -/

theorem echo_toNat (a : Word) (h : 0xE000 ≤ a.toNat) : (a - 0x2000#16).toNat = a.toNat - 0x2000 := by
  have := a.isLt
  rw [BitVec.toNat_sub]; simp only [BitVec.toNat_ofNat]; omega

theorem winCell_of_plain (a : Word) (h : plainAddr a) (he : a.toNat < 0xE000 ∨ 0xFDFF < a.toNat) : winCell a = some a.toNat := by
  have hd : ¬ a = 0xFF04 := fun e => by subst e; exact absurd h (by decide)
  unfold winCell
  rw [if_neg hd]
  split_ifs <;> first | omega | rfl

/-- The cell of WIN that a bus write changes; it changes no other. -/
theorem State.read_win_memWrite (s : State) (a : Word) (v : Byte) (n : Nat) :
    Memory.read .win (s.memWrite a v).win n = if winCell a = some n then v else Memory.read .win s.win n := by
  have none_case : ∀ t : State, s.memWrite a v = t → t.win = s.win → winCell a = none →
      Memory.read .win (s.memWrite a v).win n = if winCell a = some n then v else Memory.read .win s.win n := by
    intro t h hw hc; rw [h, hw, hc]; rfl
  have some_case : ∀ (t : State) k, s.memWrite a v = t → t.win = Memory.write .win s.win k v → winCell a = some k →
      Memory.read .win (s.memWrite a v).win n = if winCell a = some n then v else Memory.read .win s.win n := by
    intro t k h hw hc
    rw [h, hw, hc, Memory.read_write]
    simp only [Option.some.injEq, eq_comm]
  rcases addr_cases a with h | h | h | h | h | h | h | ⟨h, he, ht⟩
  · obtain ⟨rb, rk, re, rm, hb⟩ := s.handleBanking_shape a v
    exact none_case _ ((s.memWrite_banking a v h).trans hb) rfl (by unfold winCell; rw [if_pos (by omega)])
  · have hc : winCell a = none := by unfold winCell; split_ifs <;> first | omega | rfl
    refine none_case _ (s.memWrite_external a v h.1 h.2) ?_ hc
    split <;> rfl
  · refine some_case _ _ (s.memWrite_echo a v h.1 h.2) rfl ?_
    have e : (a - 0x2000 : Word).toNat = a.toNat - 0x2000 := echo_toNat a h.1
    rw [e]
    unfold winCell; split_ifs <;> first | omega | rfl
  · exact none_case _ (s.memWrite_restricted a v h.1 h.2) rfl (by unfold winCell; split_ifs <;> first | omega | rfl)
  · subst h; exact none_case _ (s.memWrite_div v) rfl (by decide)
  · subst h; exact some_case _ _ ((s.memWrite_tac v).trans (s.tacWrite_eq v)) rfl (by decide)
  · subst h; exact some_case _ _ (s.memWrite_p1 v) rfl (by decide)
  · exact some_case _ _ (s.memWrite_window a v h he ht) rfl (winCell_of_plain a h he)

theorem State.memWrite_eram_elsewhere (s : State) (a : Word) (v : Byte) (h : a.toNat < 0xA000 ∨ 0xBFFF < a.toNat) :
    (s.memWrite a v).eram = s.eram := by
  rcases addr_cases a with h' | h' | h' | h' | rfl | rfl | rfl | ⟨h', he, ht⟩
  · obtain ⟨rb, rk, re, rm, hb⟩ := s.handleBanking_shape a v
    rw [s.memWrite_banking a v h', hb]
  · omega
  · rw [s.memWrite_echo a v h'.1 h'.2]; rfl
  · rw [s.memWrite_restricted a v h'.1 h'.2]
  · rfl
  · rw [State.memWrite_tac, State.tacWrite_eq]; rfl
  · rfl
  · rw [s.memWrite_window a v h' he ht]; rfl

/-- The cell of ERAM that a bus write changes; it changes no other. -/
theorem State.read_eram_memWrite (s : State) (a : Word) (v : Byte) (n : Nat) :
    Memory.read .eram (s.memWrite a v).eram n = if s.eramCell a = some n then v else Memory.read .eram s.eram n := by
  by_cases h : 0xA000 ≤ a.toNat ∧ a.toNat ≤ 0xBFFF
  · rw [s.memWrite_external a v h.1 h.2]
    by_cases hr : s.ramEnabled = true
    · have hc : s.eramCell a = some (s.eramIndex a) := if_pos ⟨hr, h.1, by omega⟩
      rw [if_pos hr, hc, State.setEram_eram, Memory.read_write]
      simp only [Option.some.injEq, eq_comm]
    · have hc : s.eramCell a = none := if_neg (fun e => hr e.1)
      rw [if_neg hr, hc]; rfl
  · have hc : s.eramCell a = none := if_neg (by omega)
    rw [s.memWrite_eram_elsewhere a v (by omega), hc]; rfl

/-- A store at or above 0x8000 leaves the banking registers alone. -/
theorem State.memWrite_above_rom (s : State) (a : Word) (v : Byte) (h : 0x8000 ≤ a.toNat) :
    (s.memWrite a v).romBank = s.romBank ∧ (s.memWrite a v).ramBank = s.ramBank ∧
      (s.memWrite a v).ramEnabled = s.ramEnabled ∧ (s.memWrite a v).romBankingMode = s.romBankingMode := by
  rcases addr_cases a with h' | h' | h' | h' | rfl | rfl | rfl | ⟨h', he, ht⟩
  · omega
  · rw [s.memWrite_external a v h'.1 h'.2]; split <;> simp
  · simp [s.memWrite_echo a v h'.1 h'.2]
  · simp [s.memWrite_restricted a v h'.1 h'.2]
  · exact ⟨rfl, rfl, rfl, rfl⟩
  · rw [State.memWrite_tac, State.tacWrite_eq]; simp
  · exact ⟨rfl, rfl, rfl, rfl⟩
  · simp [s.memWrite_window a v h' he ht]

/-- The divider after a store: a store to 0xFF04 clears it, and no other changes it (R68). -/
theorem State.memWrite_divCounter (s : State) (a : Word) (v : Byte) :
    (s.memWrite a v).divCounter = if a = 0xFF04 then 0 else s.divCounter := by
  by_cases h4 : a = 0xFF04
  · subst h4; rfl
  rw [if_neg h4]
  rcases addr_cases a with h' | h' | h' | h' | rfl | rfl | rfl | ⟨h', he, ht⟩
  · obtain ⟨rb, rk, re, rm, hb⟩ := s.handleBanking_shape a v
    rw [s.memWrite_banking a v h', hb]
  · rw [s.memWrite_external a v h'.1 h'.2]; split <;> rfl
  · rw [s.memWrite_echo a v h'.1 h'.2]; rfl
  · rw [s.memWrite_restricted a v h'.1 h'.2]
  · exact absurd rfl h4
  · rw [State.memWrite_tac, State.tacWrite_eq]; rfl
  · rfl
  · rw [s.memWrite_window a v h' he ht]; rfl

/-- The countdown after a store: only a store to 0xFF07 that changes bits 1:0 reloads it (R69). -/
theorem State.memWrite_timerCounter (s : State) (a : Word) (v : Byte) :
    (s.memWrite a v).timerCounter =
      if a = 0xFF07 ∧ v &&& 0x03 ≠ s.winByte 0xFF07 &&& 0x03 then timerPeriod v else s.timerCounter := by
  by_cases h7 : a = 0xFF07
  · subst h7
    have e : (s.memWrite 0xFF07 v).timerCounter = if v &&& 0x03 = s.winByte 0xFF07 &&& 0x03 then s.timerCounter else timerPeriod v := by
      rw [State.memWrite_tac, State.tacWrite_eq]
    rw [e]
    split <;> simp_all
  rw [if_neg (fun e => h7 e.1)]
  rcases addr_cases a with h' | h' | h' | h' | rfl | rfl | rfl | ⟨h', he, ht⟩
  · obtain ⟨rb, rk, re, rm, hb⟩ := s.handleBanking_shape a v
    rw [s.memWrite_banking a v h', hb]
  · rw [s.memWrite_external a v h'.1 h'.2]; split <;> rfl
  · rw [s.memWrite_echo a v h'.1 h'.2]; rfl
  · rw [s.memWrite_restricted a v h'.1 h'.2]
  · rfl
  · exact absurd rfl h7
  · rfl
  · rw [s.memWrite_window a v h' he ht]; rfl

/-! ### Pushing -/

theorem State.handleBanking_setSP (s : State) (x : Word) (a : Word) (v : Byte) :
    ({ s with sp := x } : State).handleBanking a v = { s.handleBanking a v with sp := x } := by
  simp only [State.handleBanking, State.ramEnableWrite, State.lowBankSelect, State.highBankSelect, State.modeSelect]
  cases hm : s.mbc <;> simp only <;> split_ifs <;> first | rfl | simp_all

/-- A bus write does not read SP. -/
theorem State.memWrite_setSP (s : State) (x : Word) (a : Word) (v : Byte) :
    ({ s with sp := x } : State).memWrite a v = { s.memWrite a v with sp := x } := by
  rcases addr_cases a with h' | h' | h' | h' | rfl | rfl | rfl | ⟨h', he, ht⟩
  · rw [State.memWrite_banking _ a v h', State.memWrite_banking _ a v h', State.handleBanking_setSP]
  · rw [State.memWrite_external _ a v h'.1 h'.2, State.memWrite_external _ a v h'.1 h'.2]
    by_cases h : s.ramEnabled = true
    · rw [if_pos h, if_pos h]; rfl
    · rw [if_neg h, if_neg h]
  · rw [State.memWrite_echo _ a v h'.1 h'.2, State.memWrite_echo _ a v h'.1 h'.2]; rfl
  · rw [State.memWrite_restricted _ a v h'.1 h'.2, State.memWrite_restricted _ a v h'.1 h'.2]
  · rfl
  · rw [State.memWrite_tac, State.memWrite_tac, State.tacWrite_eq, State.tacWrite_eq]; rfl
  · rfl
  · rw [State.memWrite_window _ a v h' he ht, State.memWrite_window _ a v h' he ht]; rfl

/-- The two bus writes of a push, and SP (R130). -/
theorem State.push16_eq (s : State) (v : Word) :
    s.push16 v =
      { (s.memWrite (s.sp - 1) (hiByte v)).memWrite (s.sp - 2) (loByte v) with sp := s.sp - 2 } := by
  simp only [State.push16, State.memWrite_setSP]
  have : s.sp - 1 - 1 = s.sp - 2 := by bv_omega
  rw [this]

/-! ### The arrays stay in canonical form -/

/-- The three arrays of a state are in canonical form. -/
def State.memoryForm (s : State) : Prop := Memory.wf .win s.win ∧ Memory.wf .eram s.eram ∧ Memory.wf .cart s.cart

theorem State.reset_memoryForm : State.reset.memoryForm := ⟨Memory.nil_wf _, Memory.nil_wf _, Memory.nil_wf _⟩

theorem State.setWin_memoryForm (s : State) (a : Word) (v : Byte) (h : s.memoryForm) : (s.setWin a v).memoryForm :=
  ⟨Memory.write_wf .win s.win _ v h.1 a.isLt, h.2⟩

theorem State.eramIndex_lt (s : State) (a : Word) (h : 0xA000 ≤ a.toNat) (h' : a.toNat ≤ 0xBFFF) :
    s.eramIndex a < Storage.eram.size := by
  have hs : Storage.eram.size = 0x8000 := rfl
  have := s.ramBank.isLt
  unfold State.eramIndex
  omega

theorem State.setEram_memoryForm (s : State) (n : Nat) (v : Byte) (hn : n < Storage.eram.size) (h : s.memoryForm) :
    (s.setEram n v).memoryForm :=
  ⟨h.1, Memory.write_wf .eram s.eram n v h.2.1 hn, h.2.2⟩

/-- A bus write keeps the arrays in canonical form. -/
theorem State.memWrite_memoryForm (s : State) (a : Word) (v : Byte) (h : s.memoryForm) : (s.memWrite a v).memoryForm := by
  rcases addr_cases a with h' | h' | h' | h' | rfl | rfl | rfl | ⟨h', he, ht⟩
  · obtain ⟨rb, rk, re, rm, hb⟩ := s.handleBanking_shape a v
    rw [s.memWrite_banking a v h', hb]; exact h
  · rw [s.memWrite_external a v h'.1 h'.2]; split
    exacts [s.setEram_memoryForm _ v (s.eramIndex_lt a h'.1 h'.2) h, h]
  · rw [s.memWrite_echo a v h'.1 h'.2]; exact s.setWin_memoryForm _ v h
  · rw [s.memWrite_restricted a v h'.1 h'.2]; exact h
  · exact h
  · rw [State.memWrite_tac, State.tacWrite_eq]; exact s.setWin_memoryForm 0xFF07 v h
  · exact s.setWin_memoryForm _ v h
  · rw [s.memWrite_window a v h' he ht]; exact s.setWin_memoryForm _ v h

theorem State.push16_memoryForm (s : State) (v : Word) (h : s.memoryForm) : (s.push16 v).memoryForm := by
  unfold State.push16
  exact State.memWrite_memoryForm _ _ _ (State.memWrite_memoryForm _ _ _ h)

theorem State.request_memoryForm (s : State) (n : IrqSource) (h : s.memoryForm) : (s.request n).memoryForm :=
  s.setWin_memoryForm _ _ h

theorem State.service_memoryForm (s : State) (n : IrqSource) (h : s.memoryForm) : (s.service n).memoryForm := by
  unfold State.service
  have hw := s.setWin_memoryForm addrIF (s.winByte addrIF &&& ~~~n.mask) h
  exact State.push16_memoryForm _ _ hw

theorem State.tick_memoryForm (s : State) (cyc : Nat) (h : s.memoryForm) : (s.tick cyc).memoryForm := by
  simp only [State.tick, State.tickTimer]
  repeat' split
  · exact State.request_memoryForm _ _ (State.setWin_memoryForm _ _ _ h)
  · exact State.setWin_memoryForm _ _ _ h
  · exact h
  · exact h

theorem State.applyAnswer_memoryForm (s : State) (ans : RenderAnswer) (h : s.memoryForm) :
    (s.applyAnswer ans).memoryForm := by
  simp only [State.applyAnswer]
  repeat' split
  exacts [State.request_memoryForm _ _ (State.request_memoryForm _ _ h), State.request_memoryForm _ _ h,
    State.request_memoryForm _ _ h, h]

theorem State.poll_memoryForm (s : State) (h : s.memoryForm) : (s.poll).memoryForm := by
  unfold State.poll
  repeat' split
  exacts [State.service_memoryForm _ _ h, h, h]

theorem State.placeByte_memoryForm (s : State) (a : Word) (v : Byte) (hs : s.storable a = true) (h : s.memoryForm) :
    (s.placeByte a v).memoryForm := by
  unfold State.placeByte
  unfold State.storable at hs
  split
  · next hr =>
    rw [if_pos hr, decide_eq_true_eq] at hs
    exact ⟨h.1, h.2.1, Memory.write_wf .cart s.cart _ v h.2.2 hs⟩
  · split
    · next he => exact s.setEram_memoryForm _ v (s.eramIndex_lt a he.1 he.2) h
    · split <;> exact s.setWin_memoryForm _ v h

/-! ### Requests and the poll -/

theorem State.winByte_setWin (s : State) (a b : Word) (v : Byte) :
    (s.setWin a v).winByte b = if b = a then v else s.winByte b := by
  unfold State.winByte State.setWin
  rw [Memory.read_write]
  by_cases h : b = a
  · simp [h]
  · rw [if_neg (fun e => h (BitVec.eq_of_toNat_eq e)), if_neg h]

/-- The window byte at IF gains the source's bit, and no other byte changes (R340). -/
theorem State.winByte_request (s : State) (n : IrqSource) (b : Word) :
    (s.request n).winByte b = if b = addrIF then s.winByte addrIF ||| n.mask else s.winByte b :=
  s.winByte_setWin addrIF b _

/-- What a poll does: nothing, or one service of the lowest pending source (R351). -/
theorem State.poll_cases (s : State) :
    s.poll = s ∨ ∃ n, s.ime = true ∧ lowestSource s.pendingMask = some n ∧ s.poll = s.service n := by
  unfold State.poll
  split
  · next h =>
    split
    · next n hn => exact .inr ⟨n, h, hn, rfl⟩
    · exact .inl rfl
  · exact .inl rfl

end Sys2Proof.Machine
end

