-- ==== Sys2Proof/Laws/Exec.lean ====
section
/-! SUPPORT. The arm of `exec` for each group of instructions, as the shared operation its meanings call; every instruction ends
in a next state; and what the parts of a step do. -/

namespace Sys2Proof.Machine

/-! ### The groups -/

theorem exec_ldReg (dst r : Reg8) (s : State) : exec (.ldReg dst r) s = loadReg dst r s := by cases dst <;> cases r <;> rfl

theorem exec_ldRegMem (dst : Reg8) (s : State) : exec (.ldRegMem dst) s = loadRegMem dst s := by cases dst <;> rfl

theorem exec_ldMemReg (r : Reg8) (s : State) : exec (.ldMemReg r) s = loadMemReg r s := by cases r <;> rfl

theorem exec_ldRegImm (dst : Reg8) (n : Byte) (s : State) : exec (.ldRegImm dst n) s = loadRegImm dst n s := by cases dst <;> rfl

theorem exec_ldR16 (p : Reg16) (n : Word) (s : State) : exec (.ldR16 p n) s = loadPairImm p n s := by cases p <;> rfl

theorem exec_push (p : Reg16Stk) (s : State) : exec (.push p) s = pushPair p s := by cases p <;> rfl

theorem exec_pop (p : Reg16Stk) (s : State) : exec (.pop p) s = popPair p s := by cases p <;> rfl

theorem exec_alu (op : AluOp) (src : AluSrc) (s : State) : exec (.alu op src) s = accumulate op src s := by
  rcases src with (⟨⟨⟩⟩ | _) | _ <;> cases op <;> rfl

theorem exec_inc8 (x : Loc8) (s : State) : exec (.inc8 x) s = incLoc x s := by rcases x with ⟨⟨⟩⟩ | _ <;> rfl

theorem exec_dec8 (x : Loc8) (s : State) : exec (.dec8 x) s = decLoc x s := by rcases x with ⟨⟨⟩⟩ | _ <;> rfl

theorem exec_addHL (p : Reg16) (s : State) : exec (.addHL p) s = addHLPair p s := by cases p <;> rfl

theorem exec_inc16 (p : Reg16) (s : State) : exec (.inc16 p) s = incPair p s := by cases p <;> rfl

theorem exec_dec16 (p : Reg16) (s : State) : exec (.dec16 p) s = decPair p s := by cases p <;> rfl

theorem exec_jpCond (cc : Cond) (a : Word) (s : State) : exec (.jpCond cc a) s = jumpIf cc a s := by cases cc <;> rfl

theorem exec_jrCond (cc : Cond) (e : Byte) (s : State) : exec (.jrCond cc e) s = jumpRelIf cc e s := by cases cc <;> rfl

theorem exec_callCond (cc : Cond) (a : Word) (s : State) : exec (.callCond cc a) s = callIf cc a s := by cases cc <;> rfl

theorem exec_retCond (cc : Cond) (s : State) : exec (.retCond cc) s = returnIf cc s := by cases cc <;> rfl

theorem exec_rst (y : Field3) (s : State) : exec (.rst y) s = callTo 16 (rstTarget y) s := by cases y <;> rfl

theorem exec_rot (op : RotOp) (x : Loc8) (s : State) : exec (.rot op x) s = rotateLoc op x s := by
  rcases x with ⟨⟨⟩⟩ | _ <;> cases op <;> rfl

theorem exec_bit (n : Field3) (x : Loc8) (s : State) : exec (.bit n x) s = testBit n x s := by
  rcases x with ⟨⟨⟩⟩ | _ <;> cases n <;> rfl

theorem exec_res (n : Field3) (x : Loc8) (s : State) : exec (.res n x) s = resetBit n x s := by
  rcases x with ⟨⟨⟩⟩ | _ <;> cases n <;> rfl

theorem exec_set (n : Field3) (x : Loc8) (s : State) : exec (.set n x) s = setBit n x s := by
  rcases x with ⟨⟨⟩⟩ | _ <;> cases n <;> rfl

/-! ### Every instruction ends in a next state -/

theorem done_next (c : Nat) (s : State) : ∃ t, done c s = .next t := ⟨_, rfl⟩

theorem jumpIf_next (cc : Cond) (a : Word) (s : State) : ∃ t, jumpIf cc a s = .next t := by
  unfold jumpIf; split <;> exact ⟨_, rfl⟩

theorem jumpRelIf_next (cc : Cond) (e : Byte) (s : State) : ∃ t, jumpRelIf cc e s = .next t := by
  unfold jumpRelIf; split <;> exact ⟨_, rfl⟩

theorem callIf_next (cc : Cond) (a : Word) (s : State) : ∃ t, callIf cc a s = .next t := by
  unfold callIf; split <;> exact ⟨_, rfl⟩

theorem returnIf_next (cc : Cond) (s : State) : ∃ t, returnIf cc s = .next t := by
  unfold returnIf; split <;> exact ⟨_, rfl⟩

/-- No instruction stops: `exec` answers a next state for every instruction in every state. -/
theorem exec_next (i : Instr) (s : State) : ∃ t, exec i s = .next t := by
  cases i <;> first
    | exact ⟨_, rfl⟩
    | exact jumpIf_next _ _ s
    | exact jumpRelIf_next _ _ s
    | exact callIf_next _ _ s
    | exact returnIf_next _ s

/-! ### The parts of a step -/

/-- What follows an instruction: its outcome is a next state, whose pending flags resolve unless it faulted. -/
theorem fetchExecute_eq (s : State) :
    ∃ t, exec s.instrAtPc s.pastInstr = .next t ∧
      fetchExecute s = .next (if t.fault = none then t.resolvePending (s.memRead s.pc) else t) := by
  obtain ⟨t, ht⟩ := exec_next s.instrAtPc s.pastInstr
  refine ⟨t, ht, ?_⟩
  unfold fetchExecute
  rw [ht]
  cases hf : t.fault <;> simp [hf]

/-- A halted step with nothing pending, or the fetch and execution of one instruction (R359, R361). -/
theorem coreStep_cases (s : State) :
    (s.halted = true ∧ s.pendingMask = 0 ∧ coreStep s = .next { s with stepCycles := 4 }) ∨
      (¬(s.halted = true ∧ s.pendingMask = 0) ∧ coreStep s = fetchExecute { s with halted := false }) := by
  unfold coreStep
  by_cases h : s.halted = true
  · by_cases hp : s.pendingMask = 0
    · exact .inl ⟨h, hp, by rw [if_pos h, if_pos hp]; rfl⟩
    · exact .inr ⟨fun e => hp e.2, by rw [if_pos h, if_neg hp]⟩
  · refine .inr ⟨fun e => h e.1, ?_⟩
    rw [if_neg h]
    have : s.halted = false := by simpa using h
    rw [← this]

theorem coreStep_next (s : State) : ∃ t, coreStep s = .next t := by
  rcases coreStep_cases s with ⟨_, _, h⟩ | ⟨_, h⟩
  · exact ⟨_, h⟩
  · obtain ⟨t, _, ht⟩ := fetchExecute_eq { s with halted := false }
    exact ⟨_, h.trans ht⟩

/-- A step from a faulted state is that fault; every other step has a next state, the core's step followed by the rest of the
iteration (R360). -/
theorem step_cases (s : State) :
    (∃ r, s.fault = some r ∧ step s = .fault (.decodeFault r.pc r.byte)) ∨
      (s.fault = none ∧ ∃ t, coreStep s = .next t ∧ step s = .next t.afterStep) := by
  unfold step iterate
  cases h : s.fault with
  | some r => exact .inl ⟨r, rfl, rfl⟩
  | none =>
    obtain ⟨t, ht⟩ := coreStep_next s
    exact .inr ⟨rfl, t, ht, by rw [ht]⟩

/-- The rest of an iteration that did not fault: tick, RENDER's requests, poll, and the frame's count. -/
theorem afterStep_live (s : State) (h : s.fault = none) :
    s.afterStep = (s.tick s.stepCycles).dropAnswer.settle s.nextAnswer := by
  unfold State.afterStep State.nextAnswer
  rw [h]
  simp

end Sys2Proof.Machine
end

