-- ==== Sys2Proof/Laws/Groups.lean ====
section
/-! SUPPORT. One case for each group of rows that share an operation, and one for each row that stands alone: a statement about
every instruction is proved by `induction i using Instr.byGroup`. -/

namespace Sys2Proof

theorem Instr.byGroup {P : Instr → Prop}
    (ldReg : ∀ x y, P (.ldReg x y))
    (ldRegMem : ∀ x, P (.ldRegMem x))
    (ldMemReg : ∀ x, P (.ldMemReg x))
    (ldRegImm : ∀ x y, P (.ldRegImm x y))
    (ldR16 : ∀ x y, P (.ldR16 x y))
    (push : ∀ x, P (.push x))
    (pop : ∀ x, P (.pop x))
    (alu : ∀ x y, P (.alu x y))
    (inc8 : ∀ x, P (.inc8 x))
    (dec8 : ∀ x, P (.dec8 x))
    (addHL : ∀ x, P (.addHL x))
    (inc16 : ∀ x, P (.inc16 x))
    (dec16 : ∀ x, P (.dec16 x))
    (jpCond : ∀ x y, P (.jpCond x y))
    (jrCond : ∀ x y, P (.jrCond x y))
    (callCond : ∀ x y, P (.callCond x y))
    (retCond : ∀ x, P (.retCond x))
    (rst : ∀ x, P (.rst x))
    (rot : ∀ x y, P (.rot x y))
    (bit : ∀ x y, P (.bit x y))
    (res : ∀ x y, P (.res x y))
    (set : ∀ x y, P (.set x y))
    (ld_ma16_SP : ∀ a, P (.ld_ma16_SP a))
    (stop : ∀ n, P (.stop n))
    (jr_e8 : ∀ e, P (.jr_e8 e))
    (ld_mHL_n8 : ∀ n, P (.ld_mHL_n8 n))
    (jp_a16 : ∀ a, P (.jp_a16 a))
    (call_a16 : ∀ a, P (.call_a16 a))
    (ldh_ma8_A : ∀ a, P (.ldh_ma8_A a))
    (add_SP_e8 : ∀ e, P (.add_SP_e8 e))
    (ld_ma16_A : ∀ a, P (.ld_ma16_A a))
    (ldh_A_ma8 : ∀ a, P (.ldh_A_ma8 a))
    (ld_HL_SPe8 : ∀ e, P (.ld_HL_SPe8 e))
    (ld_A_ma16 : ∀ a, P (.ld_A_ma16 a))
    (nop : P .nop)
    (ld_mBC_A : P .ld_mBC_A)
    (rlca : P .rlca)
    (ld_A_mBC : P .ld_A_mBC)
    (rrca : P .rrca)
    (ld_mDE_A : P .ld_mDE_A)
    (rla : P .rla)
    (ld_A_mDE : P .ld_A_mDE)
    (rra : P .rra)
    (ld_mHLinc_A : P .ld_mHLinc_A)
    (daa : P .daa)
    (ld_A_mHLinc : P .ld_A_mHLinc)
    (cpl : P .cpl)
    (ld_mHLdec_A : P .ld_mHLdec_A)
    (scf : P .scf)
    (ld_A_mHLdec : P .ld_A_mHLdec)
    (ccf : P .ccf)
    (halt : P .halt)
    (ret : P .ret)
    (unrecognized_D3 : P .unrecognized_D3)
    (reti : P .reti)
    (unrecognized_DB : P .unrecognized_DB)
    (unrecognized_DD : P .unrecognized_DD)
    (ld_mC_A : P .ld_mC_A)
    (unrecognized_E3 : P .unrecognized_E3)
    (unrecognized_E4 : P .unrecognized_E4)
    (jp_HL : P .jp_HL)
    (unrecognized_EB : P .unrecognized_EB)
    (unrecognized_EC : P .unrecognized_EC)
    (unrecognized_ED : P .unrecognized_ED)
    (ld_A_mC : P .ld_A_mC)
    (di : P .di)
    (unrecognized_F4 : P .unrecognized_F4)
    (ld_SP_HL : P .ld_SP_HL)
    (ei : P .ei)
    (unrecognized_FC : P .unrecognized_FC)
    (unrecognized_FD : P .unrecognized_FD)
    (i : Instr) : P i := by
  cases i with
  | ld_BC_n16 n => exact ldR16 .bc n
  | ld_B_n8 n => exact ldRegImm .b n
  | ld_ma16_SP a => exact ld_ma16_SP a
  | ld_C_n8 n => exact ldRegImm .c n
  | stop n => exact stop n
  | ld_DE_n16 n => exact ldR16 .de n
  | ld_D_n8 n => exact ldRegImm .d n
  | jr_e8 e => exact jr_e8 e
  | ld_E_n8 n => exact ldRegImm .e n
  | jr_NZ_e8 e => exact jrCond .nz e
  | ld_HL_n16 n => exact ldR16 .hl n
  | ld_H_n8 n => exact ldRegImm .h n
  | jr_Z_e8 e => exact jrCond .z e
  | ld_L_n8 n => exact ldRegImm .l n
  | jr_NC_e8 e => exact jrCond .nc e
  | ld_SP_n16 n => exact ldR16 .sp n
  | ld_mHL_n8 n => exact ld_mHL_n8 n
  | jr_C_e8 e => exact jrCond .c e
  | ld_A_n8 n => exact ldRegImm .a n
  | jp_NZ_a16 a => exact jpCond .nz a
  | jp_a16 a => exact jp_a16 a
  | call_NZ_a16 a => exact callCond .nz a
  | add_A_n8 n => exact alu .add (.imm n)
  | jp_Z_a16 a => exact jpCond .z a
  | call_Z_a16 a => exact callCond .z a
  | call_a16 a => exact call_a16 a
  | adc_A_n8 n => exact alu .adc (.imm n)
  | jp_NC_a16 a => exact jpCond .nc a
  | call_NC_a16 a => exact callCond .nc a
  | sub_A_n8 n => exact alu .sub (.imm n)
  | jp_C_a16 a => exact jpCond .c a
  | call_C_a16 a => exact callCond .c a
  | sbc_A_n8 n => exact alu .sbc (.imm n)
  | ldh_ma8_A a => exact ldh_ma8_A a
  | and_A_n8 n => exact alu .and (.imm n)
  | add_SP_e8 e => exact add_SP_e8 e
  | ld_ma16_A a => exact ld_ma16_A a
  | xor_A_n8 n => exact alu .xor (.imm n)
  | ldh_A_ma8 a => exact ldh_A_ma8 a
  | or_A_n8 n => exact alu .or (.imm n)
  | ld_HL_SPe8 e => exact ld_HL_SPe8 e
  | ld_A_ma16 a => exact ld_A_ma16 a
  | cp_A_n8 n => exact alu .cp (.imm n)
  | nop => exact nop
  | ld_mBC_A => exact ld_mBC_A
  | inc_BC => exact inc16 .bc
  | inc_B => exact inc8 (.reg .b)
  | dec_B => exact dec8 (.reg .b)
  | rlca => exact rlca
  | add_HL_BC => exact addHL .bc
  | ld_A_mBC => exact ld_A_mBC
  | dec_BC => exact dec16 .bc
  | inc_C => exact inc8 (.reg .c)
  | dec_C => exact dec8 (.reg .c)
  | rrca => exact rrca
  | ld_mDE_A => exact ld_mDE_A
  | inc_DE => exact inc16 .de
  | inc_D => exact inc8 (.reg .d)
  | dec_D => exact dec8 (.reg .d)
  | rla => exact rla
  | add_HL_DE => exact addHL .de
  | ld_A_mDE => exact ld_A_mDE
  | dec_DE => exact dec16 .de
  | inc_E => exact inc8 (.reg .e)
  | dec_E => exact dec8 (.reg .e)
  | rra => exact rra
  | ld_mHLinc_A => exact ld_mHLinc_A
  | inc_HL => exact inc16 .hl
  | inc_H => exact inc8 (.reg .h)
  | dec_H => exact dec8 (.reg .h)
  | daa => exact daa
  | add_HL_HL => exact addHL .hl
  | ld_A_mHLinc => exact ld_A_mHLinc
  | dec_HL => exact dec16 .hl
  | inc_L => exact inc8 (.reg .l)
  | dec_L => exact dec8 (.reg .l)
  | cpl => exact cpl
  | ld_mHLdec_A => exact ld_mHLdec_A
  | inc_SP => exact inc16 .sp
  | inc_mHL => exact inc8 .mHL
  | dec_mHL => exact dec8 .mHL
  | scf => exact scf
  | add_HL_SP => exact addHL .sp
  | ld_A_mHLdec => exact ld_A_mHLdec
  | dec_SP => exact dec16 .sp
  | inc_A => exact inc8 (.reg .a)
  | dec_A => exact dec8 (.reg .a)
  | ccf => exact ccf
  | ld_B_B => exact ldReg .b .b
  | ld_B_C => exact ldReg .b .c
  | ld_B_D => exact ldReg .b .d
  | ld_B_E => exact ldReg .b .e
  | ld_B_H => exact ldReg .b .h
  | ld_B_L => exact ldReg .b .l
  | ld_B_mHL => exact ldRegMem .b
  | ld_B_A => exact ldReg .b .a
  | ld_C_B => exact ldReg .c .b
  | ld_C_C => exact ldReg .c .c
  | ld_C_D => exact ldReg .c .d
  | ld_C_E => exact ldReg .c .e
  | ld_C_H => exact ldReg .c .h
  | ld_C_L => exact ldReg .c .l
  | ld_C_mHL => exact ldRegMem .c
  | ld_C_A => exact ldReg .c .a
  | ld_D_B => exact ldReg .d .b
  | ld_D_C => exact ldReg .d .c
  | ld_D_D => exact ldReg .d .d
  | ld_D_E => exact ldReg .d .e
  | ld_D_H => exact ldReg .d .h
  | ld_D_L => exact ldReg .d .l
  | ld_D_mHL => exact ldRegMem .d
  | ld_D_A => exact ldReg .d .a
  | ld_E_B => exact ldReg .e .b
  | ld_E_C => exact ldReg .e .c
  | ld_E_D => exact ldReg .e .d
  | ld_E_E => exact ldReg .e .e
  | ld_E_H => exact ldReg .e .h
  | ld_E_L => exact ldReg .e .l
  | ld_E_mHL => exact ldRegMem .e
  | ld_E_A => exact ldReg .e .a
  | ld_H_B => exact ldReg .h .b
  | ld_H_C => exact ldReg .h .c
  | ld_H_D => exact ldReg .h .d
  | ld_H_E => exact ldReg .h .e
  | ld_H_H => exact ldReg .h .h
  | ld_H_L => exact ldReg .h .l
  | ld_H_mHL => exact ldRegMem .h
  | ld_H_A => exact ldReg .h .a
  | ld_L_B => exact ldReg .l .b
  | ld_L_C => exact ldReg .l .c
  | ld_L_D => exact ldReg .l .d
  | ld_L_E => exact ldReg .l .e
  | ld_L_H => exact ldReg .l .h
  | ld_L_L => exact ldReg .l .l
  | ld_L_mHL => exact ldRegMem .l
  | ld_L_A => exact ldReg .l .a
  | ld_mHL_B => exact ldMemReg .b
  | ld_mHL_C => exact ldMemReg .c
  | ld_mHL_D => exact ldMemReg .d
  | ld_mHL_E => exact ldMemReg .e
  | ld_mHL_H => exact ldMemReg .h
  | ld_mHL_L => exact ldMemReg .l
  | halt => exact halt
  | ld_mHL_A => exact ldMemReg .a
  | ld_A_B => exact ldReg .a .b
  | ld_A_C => exact ldReg .a .c
  | ld_A_D => exact ldReg .a .d
  | ld_A_E => exact ldReg .a .e
  | ld_A_H => exact ldReg .a .h
  | ld_A_L => exact ldReg .a .l
  | ld_A_mHL => exact ldRegMem .a
  | ld_A_A => exact ldReg .a .a
  | add_A_B => exact alu .add (.loc (.reg .b))
  | add_A_C => exact alu .add (.loc (.reg .c))
  | add_A_D => exact alu .add (.loc (.reg .d))
  | add_A_E => exact alu .add (.loc (.reg .e))
  | add_A_H => exact alu .add (.loc (.reg .h))
  | add_A_L => exact alu .add (.loc (.reg .l))
  | add_A_mHL => exact alu .add (.loc .mHL)
  | add_A_A => exact alu .add (.loc (.reg .a))
  | adc_A_B => exact alu .adc (.loc (.reg .b))
  | adc_A_C => exact alu .adc (.loc (.reg .c))
  | adc_A_D => exact alu .adc (.loc (.reg .d))
  | adc_A_E => exact alu .adc (.loc (.reg .e))
  | adc_A_H => exact alu .adc (.loc (.reg .h))
  | adc_A_L => exact alu .adc (.loc (.reg .l))
  | adc_A_mHL => exact alu .adc (.loc .mHL)
  | adc_A_A => exact alu .adc (.loc (.reg .a))
  | sub_A_B => exact alu .sub (.loc (.reg .b))
  | sub_A_C => exact alu .sub (.loc (.reg .c))
  | sub_A_D => exact alu .sub (.loc (.reg .d))
  | sub_A_E => exact alu .sub (.loc (.reg .e))
  | sub_A_H => exact alu .sub (.loc (.reg .h))
  | sub_A_L => exact alu .sub (.loc (.reg .l))
  | sub_A_mHL => exact alu .sub (.loc .mHL)
  | sub_A_A => exact alu .sub (.loc (.reg .a))
  | sbc_A_B => exact alu .sbc (.loc (.reg .b))
  | sbc_A_C => exact alu .sbc (.loc (.reg .c))
  | sbc_A_D => exact alu .sbc (.loc (.reg .d))
  | sbc_A_E => exact alu .sbc (.loc (.reg .e))
  | sbc_A_H => exact alu .sbc (.loc (.reg .h))
  | sbc_A_L => exact alu .sbc (.loc (.reg .l))
  | sbc_A_mHL => exact alu .sbc (.loc .mHL)
  | sbc_A_A => exact alu .sbc (.loc (.reg .a))
  | and_A_B => exact alu .and (.loc (.reg .b))
  | and_A_C => exact alu .and (.loc (.reg .c))
  | and_A_D => exact alu .and (.loc (.reg .d))
  | and_A_E => exact alu .and (.loc (.reg .e))
  | and_A_H => exact alu .and (.loc (.reg .h))
  | and_A_L => exact alu .and (.loc (.reg .l))
  | and_A_mHL => exact alu .and (.loc .mHL)
  | and_A_A => exact alu .and (.loc (.reg .a))
  | xor_A_B => exact alu .xor (.loc (.reg .b))
  | xor_A_C => exact alu .xor (.loc (.reg .c))
  | xor_A_D => exact alu .xor (.loc (.reg .d))
  | xor_A_E => exact alu .xor (.loc (.reg .e))
  | xor_A_H => exact alu .xor (.loc (.reg .h))
  | xor_A_L => exact alu .xor (.loc (.reg .l))
  | xor_A_mHL => exact alu .xor (.loc .mHL)
  | xor_A_A => exact alu .xor (.loc (.reg .a))
  | or_A_B => exact alu .or (.loc (.reg .b))
  | or_A_C => exact alu .or (.loc (.reg .c))
  | or_A_D => exact alu .or (.loc (.reg .d))
  | or_A_E => exact alu .or (.loc (.reg .e))
  | or_A_H => exact alu .or (.loc (.reg .h))
  | or_A_L => exact alu .or (.loc (.reg .l))
  | or_A_mHL => exact alu .or (.loc .mHL)
  | or_A_A => exact alu .or (.loc (.reg .a))
  | cp_A_B => exact alu .cp (.loc (.reg .b))
  | cp_A_C => exact alu .cp (.loc (.reg .c))
  | cp_A_D => exact alu .cp (.loc (.reg .d))
  | cp_A_E => exact alu .cp (.loc (.reg .e))
  | cp_A_H => exact alu .cp (.loc (.reg .h))
  | cp_A_L => exact alu .cp (.loc (.reg .l))
  | cp_A_mHL => exact alu .cp (.loc .mHL)
  | cp_A_A => exact alu .cp (.loc (.reg .a))
  | ret_NZ => exact retCond .nz
  | pop_BC => exact pop .bc
  | push_BC => exact push .bc
  | rst_00 => exact rst .n0
  | ret_Z => exact retCond .z
  | ret => exact ret
  | rst_08 => exact rst .n1
  | ret_NC => exact retCond .nc
  | pop_DE => exact pop .de
  | unrecognized_D3 => exact unrecognized_D3
  | push_DE => exact push .de
  | rst_10 => exact rst .n2
  | ret_C => exact retCond .c
  | reti => exact reti
  | unrecognized_DB => exact unrecognized_DB
  | unrecognized_DD => exact unrecognized_DD
  | rst_18 => exact rst .n3
  | pop_HL => exact pop .hl
  | ld_mC_A => exact ld_mC_A
  | unrecognized_E3 => exact unrecognized_E3
  | unrecognized_E4 => exact unrecognized_E4
  | push_HL => exact push .hl
  | rst_20 => exact rst .n4
  | jp_HL => exact jp_HL
  | unrecognized_EB => exact unrecognized_EB
  | unrecognized_EC => exact unrecognized_EC
  | unrecognized_ED => exact unrecognized_ED
  | rst_28 => exact rst .n5
  | pop_AF => exact pop .af
  | ld_A_mC => exact ld_A_mC
  | di => exact di
  | unrecognized_F4 => exact unrecognized_F4
  | push_AF => exact push .af
  | rst_30 => exact rst .n6
  | ld_SP_HL => exact ld_SP_HL
  | ei => exact ei
  | unrecognized_FC => exact unrecognized_FC
  | unrecognized_FD => exact unrecognized_FD
  | rst_38 => exact rst .n7
  | rlc_B => exact rot .rlc (.reg .b)
  | rlc_C => exact rot .rlc (.reg .c)
  | rlc_D => exact rot .rlc (.reg .d)
  | rlc_E => exact rot .rlc (.reg .e)
  | rlc_H => exact rot .rlc (.reg .h)
  | rlc_L => exact rot .rlc (.reg .l)
  | rlc_mHL => exact rot .rlc .mHL
  | rlc_A => exact rot .rlc (.reg .a)
  | rrc_B => exact rot .rrc (.reg .b)
  | rrc_C => exact rot .rrc (.reg .c)
  | rrc_D => exact rot .rrc (.reg .d)
  | rrc_E => exact rot .rrc (.reg .e)
  | rrc_H => exact rot .rrc (.reg .h)
  | rrc_L => exact rot .rrc (.reg .l)
  | rrc_mHL => exact rot .rrc .mHL
  | rrc_A => exact rot .rrc (.reg .a)
  | rl_B => exact rot .rl (.reg .b)
  | rl_C => exact rot .rl (.reg .c)
  | rl_D => exact rot .rl (.reg .d)
  | rl_E => exact rot .rl (.reg .e)
  | rl_H => exact rot .rl (.reg .h)
  | rl_L => exact rot .rl (.reg .l)
  | rl_mHL => exact rot .rl .mHL
  | rl_A => exact rot .rl (.reg .a)
  | rr_B => exact rot .rr (.reg .b)
  | rr_C => exact rot .rr (.reg .c)
  | rr_D => exact rot .rr (.reg .d)
  | rr_E => exact rot .rr (.reg .e)
  | rr_H => exact rot .rr (.reg .h)
  | rr_L => exact rot .rr (.reg .l)
  | rr_mHL => exact rot .rr .mHL
  | rr_A => exact rot .rr (.reg .a)
  | sla_B => exact rot .sla (.reg .b)
  | sla_C => exact rot .sla (.reg .c)
  | sla_D => exact rot .sla (.reg .d)
  | sla_E => exact rot .sla (.reg .e)
  | sla_H => exact rot .sla (.reg .h)
  | sla_L => exact rot .sla (.reg .l)
  | sla_mHL => exact rot .sla .mHL
  | sla_A => exact rot .sla (.reg .a)
  | sra_B => exact rot .sra (.reg .b)
  | sra_C => exact rot .sra (.reg .c)
  | sra_D => exact rot .sra (.reg .d)
  | sra_E => exact rot .sra (.reg .e)
  | sra_H => exact rot .sra (.reg .h)
  | sra_L => exact rot .sra (.reg .l)
  | sra_mHL => exact rot .sra .mHL
  | sra_A => exact rot .sra (.reg .a)
  | swap_B => exact rot .swap (.reg .b)
  | swap_C => exact rot .swap (.reg .c)
  | swap_D => exact rot .swap (.reg .d)
  | swap_E => exact rot .swap (.reg .e)
  | swap_H => exact rot .swap (.reg .h)
  | swap_L => exact rot .swap (.reg .l)
  | swap_mHL => exact rot .swap .mHL
  | swap_A => exact rot .swap (.reg .a)
  | srl_B => exact rot .srl (.reg .b)
  | srl_C => exact rot .srl (.reg .c)
  | srl_D => exact rot .srl (.reg .d)
  | srl_E => exact rot .srl (.reg .e)
  | srl_H => exact rot .srl (.reg .h)
  | srl_L => exact rot .srl (.reg .l)
  | srl_mHL => exact rot .srl .mHL
  | srl_A => exact rot .srl (.reg .a)
  | bit_0_B => exact bit .n0 (.reg .b)
  | bit_0_C => exact bit .n0 (.reg .c)
  | bit_0_D => exact bit .n0 (.reg .d)
  | bit_0_E => exact bit .n0 (.reg .e)
  | bit_0_H => exact bit .n0 (.reg .h)
  | bit_0_L => exact bit .n0 (.reg .l)
  | bit_0_mHL => exact bit .n0 .mHL
  | bit_0_A => exact bit .n0 (.reg .a)
  | bit_1_B => exact bit .n1 (.reg .b)
  | bit_1_C => exact bit .n1 (.reg .c)
  | bit_1_D => exact bit .n1 (.reg .d)
  | bit_1_E => exact bit .n1 (.reg .e)
  | bit_1_H => exact bit .n1 (.reg .h)
  | bit_1_L => exact bit .n1 (.reg .l)
  | bit_1_mHL => exact bit .n1 .mHL
  | bit_1_A => exact bit .n1 (.reg .a)
  | bit_2_B => exact bit .n2 (.reg .b)
  | bit_2_C => exact bit .n2 (.reg .c)
  | bit_2_D => exact bit .n2 (.reg .d)
  | bit_2_E => exact bit .n2 (.reg .e)
  | bit_2_H => exact bit .n2 (.reg .h)
  | bit_2_L => exact bit .n2 (.reg .l)
  | bit_2_mHL => exact bit .n2 .mHL
  | bit_2_A => exact bit .n2 (.reg .a)
  | bit_3_B => exact bit .n3 (.reg .b)
  | bit_3_C => exact bit .n3 (.reg .c)
  | bit_3_D => exact bit .n3 (.reg .d)
  | bit_3_E => exact bit .n3 (.reg .e)
  | bit_3_H => exact bit .n3 (.reg .h)
  | bit_3_L => exact bit .n3 (.reg .l)
  | bit_3_mHL => exact bit .n3 .mHL
  | bit_3_A => exact bit .n3 (.reg .a)
  | bit_4_B => exact bit .n4 (.reg .b)
  | bit_4_C => exact bit .n4 (.reg .c)
  | bit_4_D => exact bit .n4 (.reg .d)
  | bit_4_E => exact bit .n4 (.reg .e)
  | bit_4_H => exact bit .n4 (.reg .h)
  | bit_4_L => exact bit .n4 (.reg .l)
  | bit_4_mHL => exact bit .n4 .mHL
  | bit_4_A => exact bit .n4 (.reg .a)
  | bit_5_B => exact bit .n5 (.reg .b)
  | bit_5_C => exact bit .n5 (.reg .c)
  | bit_5_D => exact bit .n5 (.reg .d)
  | bit_5_E => exact bit .n5 (.reg .e)
  | bit_5_H => exact bit .n5 (.reg .h)
  | bit_5_L => exact bit .n5 (.reg .l)
  | bit_5_mHL => exact bit .n5 .mHL
  | bit_5_A => exact bit .n5 (.reg .a)
  | bit_6_B => exact bit .n6 (.reg .b)
  | bit_6_C => exact bit .n6 (.reg .c)
  | bit_6_D => exact bit .n6 (.reg .d)
  | bit_6_E => exact bit .n6 (.reg .e)
  | bit_6_H => exact bit .n6 (.reg .h)
  | bit_6_L => exact bit .n6 (.reg .l)
  | bit_6_mHL => exact bit .n6 .mHL
  | bit_6_A => exact bit .n6 (.reg .a)
  | bit_7_B => exact bit .n7 (.reg .b)
  | bit_7_C => exact bit .n7 (.reg .c)
  | bit_7_D => exact bit .n7 (.reg .d)
  | bit_7_E => exact bit .n7 (.reg .e)
  | bit_7_H => exact bit .n7 (.reg .h)
  | bit_7_L => exact bit .n7 (.reg .l)
  | bit_7_mHL => exact bit .n7 .mHL
  | bit_7_A => exact bit .n7 (.reg .a)
  | res_0_B => exact res .n0 (.reg .b)
  | res_0_C => exact res .n0 (.reg .c)
  | res_0_D => exact res .n0 (.reg .d)
  | res_0_E => exact res .n0 (.reg .e)
  | res_0_H => exact res .n0 (.reg .h)
  | res_0_L => exact res .n0 (.reg .l)
  | res_0_mHL => exact res .n0 .mHL
  | res_0_A => exact res .n0 (.reg .a)
  | res_1_B => exact res .n1 (.reg .b)
  | res_1_C => exact res .n1 (.reg .c)
  | res_1_D => exact res .n1 (.reg .d)
  | res_1_E => exact res .n1 (.reg .e)
  | res_1_H => exact res .n1 (.reg .h)
  | res_1_L => exact res .n1 (.reg .l)
  | res_1_mHL => exact res .n1 .mHL
  | res_1_A => exact res .n1 (.reg .a)
  | res_2_B => exact res .n2 (.reg .b)
  | res_2_C => exact res .n2 (.reg .c)
  | res_2_D => exact res .n2 (.reg .d)
  | res_2_E => exact res .n2 (.reg .e)
  | res_2_H => exact res .n2 (.reg .h)
  | res_2_L => exact res .n2 (.reg .l)
  | res_2_mHL => exact res .n2 .mHL
  | res_2_A => exact res .n2 (.reg .a)
  | res_3_B => exact res .n3 (.reg .b)
  | res_3_C => exact res .n3 (.reg .c)
  | res_3_D => exact res .n3 (.reg .d)
  | res_3_E => exact res .n3 (.reg .e)
  | res_3_H => exact res .n3 (.reg .h)
  | res_3_L => exact res .n3 (.reg .l)
  | res_3_mHL => exact res .n3 .mHL
  | res_3_A => exact res .n3 (.reg .a)
  | res_4_B => exact res .n4 (.reg .b)
  | res_4_C => exact res .n4 (.reg .c)
  | res_4_D => exact res .n4 (.reg .d)
  | res_4_E => exact res .n4 (.reg .e)
  | res_4_H => exact res .n4 (.reg .h)
  | res_4_L => exact res .n4 (.reg .l)
  | res_4_mHL => exact res .n4 .mHL
  | res_4_A => exact res .n4 (.reg .a)
  | res_5_B => exact res .n5 (.reg .b)
  | res_5_C => exact res .n5 (.reg .c)
  | res_5_D => exact res .n5 (.reg .d)
  | res_5_E => exact res .n5 (.reg .e)
  | res_5_H => exact res .n5 (.reg .h)
  | res_5_L => exact res .n5 (.reg .l)
  | res_5_mHL => exact res .n5 .mHL
  | res_5_A => exact res .n5 (.reg .a)
  | res_6_B => exact res .n6 (.reg .b)
  | res_6_C => exact res .n6 (.reg .c)
  | res_6_D => exact res .n6 (.reg .d)
  | res_6_E => exact res .n6 (.reg .e)
  | res_6_H => exact res .n6 (.reg .h)
  | res_6_L => exact res .n6 (.reg .l)
  | res_6_mHL => exact res .n6 .mHL
  | res_6_A => exact res .n6 (.reg .a)
  | res_7_B => exact res .n7 (.reg .b)
  | res_7_C => exact res .n7 (.reg .c)
  | res_7_D => exact res .n7 (.reg .d)
  | res_7_E => exact res .n7 (.reg .e)
  | res_7_H => exact res .n7 (.reg .h)
  | res_7_L => exact res .n7 (.reg .l)
  | res_7_mHL => exact res .n7 .mHL
  | res_7_A => exact res .n7 (.reg .a)
  | set_0_B => exact set .n0 (.reg .b)
  | set_0_C => exact set .n0 (.reg .c)
  | set_0_D => exact set .n0 (.reg .d)
  | set_0_E => exact set .n0 (.reg .e)
  | set_0_H => exact set .n0 (.reg .h)
  | set_0_L => exact set .n0 (.reg .l)
  | set_0_mHL => exact set .n0 .mHL
  | set_0_A => exact set .n0 (.reg .a)
  | set_1_B => exact set .n1 (.reg .b)
  | set_1_C => exact set .n1 (.reg .c)
  | set_1_D => exact set .n1 (.reg .d)
  | set_1_E => exact set .n1 (.reg .e)
  | set_1_H => exact set .n1 (.reg .h)
  | set_1_L => exact set .n1 (.reg .l)
  | set_1_mHL => exact set .n1 .mHL
  | set_1_A => exact set .n1 (.reg .a)
  | set_2_B => exact set .n2 (.reg .b)
  | set_2_C => exact set .n2 (.reg .c)
  | set_2_D => exact set .n2 (.reg .d)
  | set_2_E => exact set .n2 (.reg .e)
  | set_2_H => exact set .n2 (.reg .h)
  | set_2_L => exact set .n2 (.reg .l)
  | set_2_mHL => exact set .n2 .mHL
  | set_2_A => exact set .n2 (.reg .a)
  | set_3_B => exact set .n3 (.reg .b)
  | set_3_C => exact set .n3 (.reg .c)
  | set_3_D => exact set .n3 (.reg .d)
  | set_3_E => exact set .n3 (.reg .e)
  | set_3_H => exact set .n3 (.reg .h)
  | set_3_L => exact set .n3 (.reg .l)
  | set_3_mHL => exact set .n3 .mHL
  | set_3_A => exact set .n3 (.reg .a)
  | set_4_B => exact set .n4 (.reg .b)
  | set_4_C => exact set .n4 (.reg .c)
  | set_4_D => exact set .n4 (.reg .d)
  | set_4_E => exact set .n4 (.reg .e)
  | set_4_H => exact set .n4 (.reg .h)
  | set_4_L => exact set .n4 (.reg .l)
  | set_4_mHL => exact set .n4 .mHL
  | set_4_A => exact set .n4 (.reg .a)
  | set_5_B => exact set .n5 (.reg .b)
  | set_5_C => exact set .n5 (.reg .c)
  | set_5_D => exact set .n5 (.reg .d)
  | set_5_E => exact set .n5 (.reg .e)
  | set_5_H => exact set .n5 (.reg .h)
  | set_5_L => exact set .n5 (.reg .l)
  | set_5_mHL => exact set .n5 .mHL
  | set_5_A => exact set .n5 (.reg .a)
  | set_6_B => exact set .n6 (.reg .b)
  | set_6_C => exact set .n6 (.reg .c)
  | set_6_D => exact set .n6 (.reg .d)
  | set_6_E => exact set .n6 (.reg .e)
  | set_6_H => exact set .n6 (.reg .h)
  | set_6_L => exact set .n6 (.reg .l)
  | set_6_mHL => exact set .n6 .mHL
  | set_6_A => exact set .n6 (.reg .a)
  | set_7_B => exact set .n7 (.reg .b)
  | set_7_C => exact set .n7 (.reg .c)
  | set_7_D => exact set .n7 (.reg .d)
  | set_7_E => exact set .n7 (.reg .e)
  | set_7_H => exact set .n7 (.reg .h)
  | set_7_L => exact set .n7 (.reg .l)
  | set_7_mHL => exact set .n7 .mHL
  | set_7_A => exact set .n7 (.reg .a)

end Sys2Proof
end

