-- ==== Sys2Proof/Laws/Effects.lean ====
section
/-! SUPPORT. What any instruction can do beside the CPU's registers, said once: the bus writes its rule names, and nothing else. -/

namespace Sys2Proof.Machine

/-! ### The addresses stored to, by group -/

@[simp] theorem storeAddrs_ldReg (x y : Reg8) (s : State) : (Instr.ldReg x y).storeAddrs s = [] := by
  cases x <;> cases y <;> rfl

@[simp] theorem storeAddrs_ldRegMem (x : Reg8) (s : State) : (Instr.ldRegMem x).storeAddrs s = [] := by cases x <;> rfl

@[simp] theorem storeAddrs_ldMemReg (x : Reg8) (s : State) : (Instr.ldMemReg x).storeAddrs s = [s.hl] := by cases x <;> rfl

@[simp] theorem storeAddrs_ldRegImm (x : Reg8) (n : Byte) (s : State) : (Instr.ldRegImm x n).storeAddrs s = [] := by
  cases x <;> rfl

@[simp] theorem storeAddrs_ldR16 (p : Reg16) (n : Word) (s : State) : (Instr.ldR16 p n).storeAddrs s = [] := by cases p <;> rfl

@[simp] theorem storeAddrs_push (p : Reg16Stk) (s : State) : (Instr.push p).storeAddrs s = [s.sp - 1, s.sp - 2] := by
  cases p <;> rfl

@[simp] theorem storeAddrs_pop (p : Reg16Stk) (s : State) : (Instr.pop p).storeAddrs s = [] := by cases p <;> rfl

@[simp] theorem storeAddrs_alu (op : AluOp) (src : AluSrc) (s : State) : (Instr.alu op src).storeAddrs s = [] := by
  rcases src with (⟨⟨⟩⟩ | _) | _ <;> cases op <;> rfl

@[simp] theorem storeAddrs_inc8_reg (r : Reg8) (s : State) : (Instr.inc8 (.reg r)).storeAddrs s = [] := by cases r <;> rfl

@[simp] theorem storeAddrs_inc8_mem (s : State) : (Instr.inc8 .mHL).storeAddrs s = [s.hl] := rfl

@[simp] theorem storeAddrs_dec8_reg (r : Reg8) (s : State) : (Instr.dec8 (.reg r)).storeAddrs s = [] := by cases r <;> rfl

@[simp] theorem storeAddrs_dec8_mem (s : State) : (Instr.dec8 .mHL).storeAddrs s = [s.hl] := rfl

@[simp] theorem storeAddrs_addHL (p : Reg16) (s : State) : (Instr.addHL p).storeAddrs s = [] := by cases p <;> rfl

@[simp] theorem storeAddrs_inc16 (p : Reg16) (s : State) : (Instr.inc16 p).storeAddrs s = [] := by cases p <;> rfl

@[simp] theorem storeAddrs_dec16 (p : Reg16) (s : State) : (Instr.dec16 p).storeAddrs s = [] := by cases p <;> rfl

@[simp] theorem storeAddrs_jpCond (cc : Cond) (a : Word) (s : State) : (Instr.jpCond cc a).storeAddrs s = [] := by cases cc <;> rfl

@[simp] theorem storeAddrs_jrCond (cc : Cond) (e : Byte) (s : State) : (Instr.jrCond cc e).storeAddrs s = [] := by cases cc <;> rfl

@[simp] theorem storeAddrs_callCond (cc : Cond) (a : Word) (s : State) :
    (Instr.callCond cc a).storeAddrs s = if s.cond cc then [s.sp - 1, s.sp - 2] else [] := by cases cc <;> rfl

@[simp] theorem storeAddrs_retCond (cc : Cond) (s : State) : (Instr.retCond cc).storeAddrs s = [] := by cases cc <;> rfl

@[simp] theorem storeAddrs_rst (y : Field3) (s : State) : (Instr.rst y).storeAddrs s = [s.sp - 1, s.sp - 2] := by cases y <;> rfl

@[simp] theorem storeAddrs_rot_reg (op : RotOp) (r : Reg8) (s : State) : (Instr.rot op (.reg r)).storeAddrs s = [] := by
  cases op <;> cases r <;> rfl

@[simp] theorem storeAddrs_rot_mem (op : RotOp) (s : State) : (Instr.rot op .mHL).storeAddrs s = [s.hl] := by cases op <;> rfl

@[simp] theorem storeAddrs_bit (n : Field3) (x : Loc8) (s : State) : (Instr.bit n x).storeAddrs s = [] := by
  rcases x with ⟨⟨⟩⟩ | _ <;> cases n <;> rfl

@[simp] theorem storeAddrs_res_reg (n : Field3) (r : Reg8) (s : State) : (Instr.res n (.reg r)).storeAddrs s = [] := by
  cases n <;> cases r <;> rfl

@[simp] theorem storeAddrs_res_mem (n : Field3) (s : State) : (Instr.res n .mHL).storeAddrs s = [s.hl] := by cases n <;> rfl

@[simp] theorem storeAddrs_set_reg (n : Field3) (r : Reg8) (s : State) : (Instr.set n (.reg r)).storeAddrs s = [] := by
  cases n <;> cases r <;> rfl

@[simp] theorem storeAddrs_set_mem (n : Field3) (s : State) : (Instr.set n .mHL).storeAddrs s = [s.hl] := by cases n <;> rfl

/-! ### The stores, and nothing else beside the registers -/

/-- Bus writes in order. -/
def State.storeAll (s : State) : List (Word × Byte) → State
  | [] => s
  | (a, v) :: rest => (s.memWrite a v).storeAll rest

/-- The state `m` with the CPU's own fields of `t`: the registers, `ime`, the pending flags, `halted`, `fault` and the step's
cycle count. -/
def State.withCpu (m t : State) : State :=
  { m with
    a := t.a, f := t.f, b := t.b, c := t.c, d := t.d, e := t.e, h := t.h, l := t.l, sp := t.sp, pc := t.pc
    ime := t.ime, eiPending := t.eiPending, diPending := t.diPending, halted := t.halted, fault := t.fault
    stepCycles := t.stepCycles }

theorem storesOnly_nil (s t : State) (h : t = s.withCpu t) (as : List Word) (has : as = []) :
    ∃ ws : List (Word × Byte), ws.map Prod.fst = as ∧ t = (s.storeAll ws).withCpu t := ⟨[], has.symm, h⟩

theorem storesOnly_one (s t : State) (a : Word) (v : Byte) (h : t = (s.memWrite a v).withCpu t) (as : List Word) (has : as = [a]) :
    ∃ ws : List (Word × Byte), ws.map Prod.fst = as ∧ t = (s.storeAll ws).withCpu t := ⟨[(a, v)], has.symm, h⟩

theorem storesOnly_two (s t : State) (a b : Word) (v w : Byte) (h : t = ((s.memWrite a v).memWrite b w).withCpu t) (as : List Word)
    (has : as = [a, b]) :
    ∃ ws : List (Word × Byte), ws.map Prod.fst = as ∧ t = (s.storeAll ws).withCpu t := ⟨[(a, v), (b, w)], has.symm, h⟩

theorem pushed_withCpu (s t : State) (x : Word) (h : t = (s.push16 x).withCpu t) (as : List Word)
    (has : as = [s.sp - 1, s.sp - 2]) :
    ∃ ws : List (Word × Byte), ws.map Prod.fst = as ∧ t = (s.storeAll ws).withCpu t := by
  rw [State.push16_eq] at h
  exact storesOnly_two s t _ _ _ _ h as has

/-- An instruction's next state is its bus writes at `storeAddrs`, in order, and then CPU fields alone. -/
theorem exec_stores (i : Instr) (s t : State) (h : exec i s = .next t) :
    ∃ ws : List (Word × Byte), ws.map Prod.fst = i.storeAddrs s ∧ t = (s.storeAll ws).withCpu t := by
  induction i using Instr.byGroup with
  | ldReg x y => rw [exec_ldReg] at h; cases h; exact storesOnly_nil _ _ (by cases x <;> rfl) _ (by simp)
  | ldRegMem x => rw [exec_ldRegMem] at h; cases h; exact storesOnly_nil _ _ (by cases x <;> rfl) _ (by simp)
  | ldMemReg x => rw [exec_ldMemReg] at h; cases h; exact storesOnly_one _ _ _ _ rfl _ (by simp)
  | ldRegImm x n => rw [exec_ldRegImm] at h; cases h; exact storesOnly_nil _ _ (by cases x <;> rfl) _ (by simp)
  | ldR16 p n => rw [exec_ldR16] at h; cases h; exact storesOnly_nil _ _ (by cases p <;> rfl) _ (by simp)
  | push p => rw [exec_push] at h; cases h; exact pushed_withCpu _ _ _ rfl _ (by simp)
  | pop p => rw [exec_pop] at h; cases h; exact storesOnly_nil _ _ (by cases p <;> rfl) _ (by simp)
  | alu op src => rw [exec_alu] at h; cases h; exact storesOnly_nil _ _ (by cases op <;> rfl) _ (by simp)
  | inc8 x =>
    rw [exec_inc8] at h; cases h
    cases x with
    | reg r => exact storesOnly_nil _ _ (by cases r <;> rfl) _ (by simp)
    | mHL => exact storesOnly_one _ _ _ _ rfl _ (by simp)
  | dec8 x =>
    rw [exec_dec8] at h; cases h
    cases x with
    | reg r => exact storesOnly_nil _ _ (by cases r <;> rfl) _ (by simp)
    | mHL => exact storesOnly_one _ _ _ _ rfl _ (by simp)
  | addHL p => rw [exec_addHL] at h; cases h; exact storesOnly_nil _ _ rfl _ (by simp)
  | inc16 p => rw [exec_inc16] at h; cases h; exact storesOnly_nil _ _ (by cases p <;> rfl) _ (by simp)
  | dec16 p => rw [exec_dec16] at h; cases h; exact storesOnly_nil _ _ (by cases p <;> rfl) _ (by simp)
  | jpCond cc a =>
    rw [exec_jpCond] at h; unfold jumpIf at h
    split at h <;> cases h <;> exact storesOnly_nil _ _ rfl _ (by simp)
  | jrCond cc e =>
    rw [exec_jrCond] at h; unfold jumpRelIf at h
    split at h <;> cases h <;> exact storesOnly_nil _ _ rfl _ (by simp)
  | callCond cc a =>
    rw [exec_callCond] at h; unfold callIf at h
    split at h
    · next hc => cases h; exact pushed_withCpu _ _ _ rfl _ (by simp [hc])
    · next hc => cases h; exact storesOnly_nil _ _ rfl _ (by simp [hc])
  | retCond cc =>
    rw [exec_retCond] at h; unfold returnIf at h
    split at h <;> cases h <;> exact storesOnly_nil _ _ rfl _ (by simp)
  | rst y => rw [exec_rst] at h; cases h; exact pushed_withCpu _ _ _ rfl _ (by simp)
  | rot op x =>
    rw [exec_rot] at h; cases h
    cases x with
    | reg r => exact storesOnly_nil _ _ (by cases r <;> rfl) _ (by simp)
    | mHL => exact storesOnly_one _ _ _ _ rfl _ (by simp)
  | bit n x => rw [exec_bit] at h; cases h; exact storesOnly_nil _ _ rfl _ (by simp)
  | res n x =>
    rw [exec_res] at h; cases h
    cases x with
    | reg r => exact storesOnly_nil _ _ (by cases r <;> rfl) _ (by simp)
    | mHL => exact storesOnly_one _ _ _ _ rfl _ (by simp)
  | set n x =>
    rw [exec_set] at h; cases h
    cases x with
    | reg r => exact storesOnly_nil _ _ (by cases r <;> rfl) _ (by simp)
    | mHL => exact storesOnly_one _ _ _ _ rfl _ (by simp)
  | ld_ma16_SP a => cases h; exact storesOnly_two _ _ _ _ _ _ rfl _ rfl
  | ld_mHL_n8 | ldh_ma8_A | ld_ma16_A | ld_mBC_A | ld_mDE_A | ld_mHLinc_A | ld_mHLdec_A | ld_mC_A =>
    cases h; exact storesOnly_one _ _ _ _ rfl _ rfl
  | call_a16 a => cases h; exact pushed_withCpu _ _ _ rfl _ rfl
  | _ => cases h; exact storesOnly_nil _ _ rfl _ rfl

end Sys2Proof.Machine
end

