-- ==== Sys2Proof/Tests/Slice0.lean ====
section
/-! SUPPORT. Tests: the ill-formed terms are refused; every constructor's word, written out from the maps of R117 and R118 and the
opcode table, decodes to it; one step on a small state for each instruction rule, its values from spec/95_test_vectors.md; and for
every statement with hypotheses a concrete state and operands that meet them. -/

namespace Sys2Proof.Tests

open Sys2Proof.Machine

/-! ### WellFormed refuses the eleven bytes of R115 -/

theorem test_wellFormed_refuses :
    [Instr.unrecognized_D3, .unrecognized_DB, .unrecognized_DD, .unrecognized_E3, .unrecognized_E4, .unrecognized_EB,
      .unrecognized_EC, .unrecognized_ED, .unrecognized_F4, .unrecognized_FC, .unrecognized_FD].all (fun i => !i.wellFormed) = true :=
  by decide

theorem test_wellFormed_accepts : [Instr.nop, .stop 0xFF, .ld_SP_n16 0xFFFF, .set_7_A].all Instr.wellFormed = true := by decide

/-! ### Words of R117 and R118, sixteen to a row; immediates 0x5A and 0x1234, the low byte first -/

/-- The instruction read from these bytes, if they are exactly one instruction. -/
def read (bytes : List Byte) : Option Instr :=
  match decode bytes with
  | .ok (i, []) => some i
  | _ => none

theorem test_decode_base_0 :
    List.map read [
      [0x00], [0x01, 0x34, 0x12], [0x02], [0x03], [0x04], [0x05], [0x06, 0x5A], [0x07], [0x08, 0x34, 0x12], [0x09], [0x0A],
      [0x0B], [0x0C], [0x0D], [0x0E, 0x5A], [0x0F]] =
    List.map some [
      .nop, .ld_BC_n16 0x1234, .ld_mBC_A, .inc_BC, .inc_B, .dec_B, .ld_B_n8 0x5A, .rlca, .ld_ma16_SP 0x1234, .add_HL_BC,
      .ld_A_mBC, .dec_BC, .inc_C, .dec_C, .ld_C_n8 0x5A, .rrca] := rfl

theorem test_decode_base_1 :
    List.map read [
      [0x10, 0x5A], [0x11, 0x34, 0x12], [0x12], [0x13], [0x14], [0x15], [0x16, 0x5A], [0x17], [0x18, 0x5A], [0x19], [0x1A],
      [0x1B], [0x1C], [0x1D], [0x1E, 0x5A], [0x1F]] =
    List.map some [
      .stop 0x5A, .ld_DE_n16 0x1234, .ld_mDE_A, .inc_DE, .inc_D, .dec_D, .ld_D_n8 0x5A, .rla, .jr_e8 0x5A, .add_HL_DE,
      .ld_A_mDE, .dec_DE, .inc_E, .dec_E, .ld_E_n8 0x5A, .rra] := rfl

theorem test_decode_base_2 :
    List.map read [
      [0x20, 0x5A], [0x21, 0x34, 0x12], [0x22], [0x23], [0x24], [0x25], [0x26, 0x5A], [0x27], [0x28, 0x5A], [0x29], [0x2A],
      [0x2B], [0x2C], [0x2D], [0x2E, 0x5A], [0x2F]] =
    List.map some [
      .jr_NZ_e8 0x5A, .ld_HL_n16 0x1234, .ld_mHLinc_A, .inc_HL, .inc_H, .dec_H, .ld_H_n8 0x5A, .daa, .jr_Z_e8 0x5A,
      .add_HL_HL, .ld_A_mHLinc, .dec_HL, .inc_L, .dec_L, .ld_L_n8 0x5A, .cpl] := rfl

theorem test_decode_base_3 :
    List.map read [
      [0x30, 0x5A], [0x31, 0x34, 0x12], [0x32], [0x33], [0x34], [0x35], [0x36, 0x5A], [0x37], [0x38, 0x5A], [0x39], [0x3A],
      [0x3B], [0x3C], [0x3D], [0x3E, 0x5A], [0x3F]] =
    List.map some [
      .jr_NC_e8 0x5A, .ld_SP_n16 0x1234, .ld_mHLdec_A, .inc_SP, .inc_mHL, .dec_mHL, .ld_mHL_n8 0x5A, .scf, .jr_C_e8 0x5A,
      .add_HL_SP, .ld_A_mHLdec, .dec_SP, .inc_A, .dec_A, .ld_A_n8 0x5A, .ccf] := rfl

theorem test_decode_base_4 :
    List.map read [
      [0x40], [0x41], [0x42], [0x43], [0x44], [0x45], [0x46], [0x47], [0x48], [0x49], [0x4A], [0x4B], [0x4C], [0x4D],
      [0x4E], [0x4F]] =
    List.map some [
      .ld_B_B, .ld_B_C, .ld_B_D, .ld_B_E, .ld_B_H, .ld_B_L, .ld_B_mHL, .ld_B_A, .ld_C_B, .ld_C_C, .ld_C_D, .ld_C_E,
      .ld_C_H, .ld_C_L, .ld_C_mHL, .ld_C_A] := rfl

theorem test_decode_base_5 :
    List.map read [
      [0x50], [0x51], [0x52], [0x53], [0x54], [0x55], [0x56], [0x57], [0x58], [0x59], [0x5A], [0x5B], [0x5C], [0x5D],
      [0x5E], [0x5F]] =
    List.map some [
      .ld_D_B, .ld_D_C, .ld_D_D, .ld_D_E, .ld_D_H, .ld_D_L, .ld_D_mHL, .ld_D_A, .ld_E_B, .ld_E_C, .ld_E_D, .ld_E_E,
      .ld_E_H, .ld_E_L, .ld_E_mHL, .ld_E_A] := rfl

theorem test_decode_base_6 :
    List.map read [
      [0x60], [0x61], [0x62], [0x63], [0x64], [0x65], [0x66], [0x67], [0x68], [0x69], [0x6A], [0x6B], [0x6C], [0x6D],
      [0x6E], [0x6F]] =
    List.map some [
      .ld_H_B, .ld_H_C, .ld_H_D, .ld_H_E, .ld_H_H, .ld_H_L, .ld_H_mHL, .ld_H_A, .ld_L_B, .ld_L_C, .ld_L_D, .ld_L_E,
      .ld_L_H, .ld_L_L, .ld_L_mHL, .ld_L_A] := rfl

theorem test_decode_base_7 :
    List.map read [
      [0x70], [0x71], [0x72], [0x73], [0x74], [0x75], [0x76], [0x77], [0x78], [0x79], [0x7A], [0x7B], [0x7C], [0x7D],
      [0x7E], [0x7F]] =
    List.map some [
      .ld_mHL_B, .ld_mHL_C, .ld_mHL_D, .ld_mHL_E, .ld_mHL_H, .ld_mHL_L, .halt, .ld_mHL_A, .ld_A_B, .ld_A_C, .ld_A_D,
      .ld_A_E, .ld_A_H, .ld_A_L, .ld_A_mHL, .ld_A_A] := rfl

theorem test_decode_base_8 :
    List.map read [
      [0x80], [0x81], [0x82], [0x83], [0x84], [0x85], [0x86], [0x87], [0x88], [0x89], [0x8A], [0x8B], [0x8C], [0x8D],
      [0x8E], [0x8F]] =
    List.map some [
      .add_A_B, .add_A_C, .add_A_D, .add_A_E, .add_A_H, .add_A_L, .add_A_mHL, .add_A_A, .adc_A_B, .adc_A_C, .adc_A_D,
      .adc_A_E, .adc_A_H, .adc_A_L, .adc_A_mHL, .adc_A_A] := rfl

theorem test_decode_base_9 :
    List.map read [
      [0x90], [0x91], [0x92], [0x93], [0x94], [0x95], [0x96], [0x97], [0x98], [0x99], [0x9A], [0x9B], [0x9C], [0x9D],
      [0x9E], [0x9F]] =
    List.map some [
      .sub_A_B, .sub_A_C, .sub_A_D, .sub_A_E, .sub_A_H, .sub_A_L, .sub_A_mHL, .sub_A_A, .sbc_A_B, .sbc_A_C, .sbc_A_D,
      .sbc_A_E, .sbc_A_H, .sbc_A_L, .sbc_A_mHL, .sbc_A_A] := rfl

theorem test_decode_base_A :
    List.map read [
      [0xA0], [0xA1], [0xA2], [0xA3], [0xA4], [0xA5], [0xA6], [0xA7], [0xA8], [0xA9], [0xAA], [0xAB], [0xAC], [0xAD],
      [0xAE], [0xAF]] =
    List.map some [
      .and_A_B, .and_A_C, .and_A_D, .and_A_E, .and_A_H, .and_A_L, .and_A_mHL, .and_A_A, .xor_A_B, .xor_A_C, .xor_A_D,
      .xor_A_E, .xor_A_H, .xor_A_L, .xor_A_mHL, .xor_A_A] := rfl

theorem test_decode_base_B :
    List.map read [
      [0xB0], [0xB1], [0xB2], [0xB3], [0xB4], [0xB5], [0xB6], [0xB7], [0xB8], [0xB9], [0xBA], [0xBB], [0xBC], [0xBD],
      [0xBE], [0xBF]] =
    List.map some [
      .or_A_B, .or_A_C, .or_A_D, .or_A_E, .or_A_H, .or_A_L, .or_A_mHL, .or_A_A, .cp_A_B, .cp_A_C, .cp_A_D, .cp_A_E,
      .cp_A_H, .cp_A_L, .cp_A_mHL, .cp_A_A] := rfl

theorem test_decode_base_C :
    List.map read [
      [0xC0], [0xC1], [0xC2, 0x34, 0x12], [0xC3, 0x34, 0x12], [0xC4, 0x34, 0x12], [0xC5], [0xC6, 0x5A], [0xC7], [0xC8],
      [0xC9], [0xCA, 0x34, 0x12], [0xCC, 0x34, 0x12], [0xCD, 0x34, 0x12], [0xCE, 0x5A], [0xCF]] =
    List.map some [
      .ret_NZ, .pop_BC, .jp_NZ_a16 0x1234, .jp_a16 0x1234, .call_NZ_a16 0x1234, .push_BC, .add_A_n8 0x5A, .rst_00, .ret_Z,
      .ret, .jp_Z_a16 0x1234, .call_Z_a16 0x1234, .call_a16 0x1234, .adc_A_n8 0x5A, .rst_08] := rfl

theorem test_decode_base_D :
    List.map read [
      [0xD0], [0xD1], [0xD2, 0x34, 0x12], [0xD3], [0xD4, 0x34, 0x12], [0xD5], [0xD6, 0x5A], [0xD7], [0xD8], [0xD9],
      [0xDA, 0x34, 0x12], [0xDB], [0xDC, 0x34, 0x12], [0xDD], [0xDE, 0x5A], [0xDF]] =
    List.map some [
      .ret_NC, .pop_DE, .jp_NC_a16 0x1234, .unrecognized_D3, .call_NC_a16 0x1234, .push_DE, .sub_A_n8 0x5A, .rst_10,
      .ret_C, .reti, .jp_C_a16 0x1234, .unrecognized_DB, .call_C_a16 0x1234, .unrecognized_DD, .sbc_A_n8 0x5A, .rst_18] := rfl

theorem test_decode_base_E :
    List.map read [
      [0xE0, 0x5A], [0xE1], [0xE2], [0xE3], [0xE4], [0xE5], [0xE6, 0x5A], [0xE7], [0xE8, 0x5A], [0xE9], [0xEA, 0x34, 0x12],
      [0xEB], [0xEC], [0xED], [0xEE, 0x5A], [0xEF]] =
    List.map some [
      .ldh_ma8_A 0x5A, .pop_HL, .ld_mC_A, .unrecognized_E3, .unrecognized_E4, .push_HL, .and_A_n8 0x5A, .rst_20,
      .add_SP_e8 0x5A, .jp_HL, .ld_ma16_A 0x1234, .unrecognized_EB, .unrecognized_EC, .unrecognized_ED, .xor_A_n8 0x5A,
      .rst_28] := rfl

theorem test_decode_base_F :
    List.map read [
      [0xF0, 0x5A], [0xF1], [0xF2], [0xF3], [0xF4], [0xF5], [0xF6, 0x5A], [0xF7], [0xF8, 0x5A], [0xF9], [0xFA, 0x34, 0x12],
      [0xFB], [0xFC], [0xFD], [0xFE, 0x5A], [0xFF]] =
    List.map some [
      .ldh_A_ma8 0x5A, .pop_AF, .ld_A_mC, .di, .unrecognized_F4, .push_AF, .or_A_n8 0x5A, .rst_30, .ld_HL_SPe8 0x5A,
      .ld_SP_HL, .ld_A_ma16 0x1234, .ei, .unrecognized_FC, .unrecognized_FD, .cp_A_n8 0x5A, .rst_38] := rfl

theorem test_decode_cb_0 :
    List.map read [
      [0xCB, 0x00], [0xCB, 0x01], [0xCB, 0x02], [0xCB, 0x03], [0xCB, 0x04], [0xCB, 0x05], [0xCB, 0x06], [0xCB, 0x07],
      [0xCB, 0x08], [0xCB, 0x09], [0xCB, 0x0A], [0xCB, 0x0B], [0xCB, 0x0C], [0xCB, 0x0D], [0xCB, 0x0E], [0xCB, 0x0F]] =
    List.map some [
      .rlc_B, .rlc_C, .rlc_D, .rlc_E, .rlc_H, .rlc_L, .rlc_mHL, .rlc_A, .rrc_B, .rrc_C, .rrc_D, .rrc_E, .rrc_H, .rrc_L,
      .rrc_mHL, .rrc_A] := rfl

theorem test_decode_cb_1 :
    List.map read [
      [0xCB, 0x10], [0xCB, 0x11], [0xCB, 0x12], [0xCB, 0x13], [0xCB, 0x14], [0xCB, 0x15], [0xCB, 0x16], [0xCB, 0x17],
      [0xCB, 0x18], [0xCB, 0x19], [0xCB, 0x1A], [0xCB, 0x1B], [0xCB, 0x1C], [0xCB, 0x1D], [0xCB, 0x1E], [0xCB, 0x1F]] =
    List.map some [
      .rl_B, .rl_C, .rl_D, .rl_E, .rl_H, .rl_L, .rl_mHL, .rl_A, .rr_B, .rr_C, .rr_D, .rr_E, .rr_H, .rr_L, .rr_mHL, .rr_A] := rfl

theorem test_decode_cb_2 :
    List.map read [
      [0xCB, 0x20], [0xCB, 0x21], [0xCB, 0x22], [0xCB, 0x23], [0xCB, 0x24], [0xCB, 0x25], [0xCB, 0x26], [0xCB, 0x27],
      [0xCB, 0x28], [0xCB, 0x29], [0xCB, 0x2A], [0xCB, 0x2B], [0xCB, 0x2C], [0xCB, 0x2D], [0xCB, 0x2E], [0xCB, 0x2F]] =
    List.map some [
      .sla_B, .sla_C, .sla_D, .sla_E, .sla_H, .sla_L, .sla_mHL, .sla_A, .sra_B, .sra_C, .sra_D, .sra_E, .sra_H, .sra_L,
      .sra_mHL, .sra_A] := rfl

theorem test_decode_cb_3 :
    List.map read [
      [0xCB, 0x30], [0xCB, 0x31], [0xCB, 0x32], [0xCB, 0x33], [0xCB, 0x34], [0xCB, 0x35], [0xCB, 0x36], [0xCB, 0x37],
      [0xCB, 0x38], [0xCB, 0x39], [0xCB, 0x3A], [0xCB, 0x3B], [0xCB, 0x3C], [0xCB, 0x3D], [0xCB, 0x3E], [0xCB, 0x3F]] =
    List.map some [
      .swap_B, .swap_C, .swap_D, .swap_E, .swap_H, .swap_L, .swap_mHL, .swap_A, .srl_B, .srl_C, .srl_D, .srl_E, .srl_H,
      .srl_L, .srl_mHL, .srl_A] := rfl

theorem test_decode_cb_4 :
    List.map read [
      [0xCB, 0x40], [0xCB, 0x41], [0xCB, 0x42], [0xCB, 0x43], [0xCB, 0x44], [0xCB, 0x45], [0xCB, 0x46], [0xCB, 0x47],
      [0xCB, 0x48], [0xCB, 0x49], [0xCB, 0x4A], [0xCB, 0x4B], [0xCB, 0x4C], [0xCB, 0x4D], [0xCB, 0x4E], [0xCB, 0x4F]] =
    List.map some [
      .bit_0_B, .bit_0_C, .bit_0_D, .bit_0_E, .bit_0_H, .bit_0_L, .bit_0_mHL, .bit_0_A, .bit_1_B, .bit_1_C, .bit_1_D,
      .bit_1_E, .bit_1_H, .bit_1_L, .bit_1_mHL, .bit_1_A] := rfl

theorem test_decode_cb_5 :
    List.map read [
      [0xCB, 0x50], [0xCB, 0x51], [0xCB, 0x52], [0xCB, 0x53], [0xCB, 0x54], [0xCB, 0x55], [0xCB, 0x56], [0xCB, 0x57],
      [0xCB, 0x58], [0xCB, 0x59], [0xCB, 0x5A], [0xCB, 0x5B], [0xCB, 0x5C], [0xCB, 0x5D], [0xCB, 0x5E], [0xCB, 0x5F]] =
    List.map some [
      .bit_2_B, .bit_2_C, .bit_2_D, .bit_2_E, .bit_2_H, .bit_2_L, .bit_2_mHL, .bit_2_A, .bit_3_B, .bit_3_C, .bit_3_D,
      .bit_3_E, .bit_3_H, .bit_3_L, .bit_3_mHL, .bit_3_A] := rfl

theorem test_decode_cb_6 :
    List.map read [
      [0xCB, 0x60], [0xCB, 0x61], [0xCB, 0x62], [0xCB, 0x63], [0xCB, 0x64], [0xCB, 0x65], [0xCB, 0x66], [0xCB, 0x67],
      [0xCB, 0x68], [0xCB, 0x69], [0xCB, 0x6A], [0xCB, 0x6B], [0xCB, 0x6C], [0xCB, 0x6D], [0xCB, 0x6E], [0xCB, 0x6F]] =
    List.map some [
      .bit_4_B, .bit_4_C, .bit_4_D, .bit_4_E, .bit_4_H, .bit_4_L, .bit_4_mHL, .bit_4_A, .bit_5_B, .bit_5_C, .bit_5_D,
      .bit_5_E, .bit_5_H, .bit_5_L, .bit_5_mHL, .bit_5_A] := rfl

theorem test_decode_cb_7 :
    List.map read [
      [0xCB, 0x70], [0xCB, 0x71], [0xCB, 0x72], [0xCB, 0x73], [0xCB, 0x74], [0xCB, 0x75], [0xCB, 0x76], [0xCB, 0x77],
      [0xCB, 0x78], [0xCB, 0x79], [0xCB, 0x7A], [0xCB, 0x7B], [0xCB, 0x7C], [0xCB, 0x7D], [0xCB, 0x7E], [0xCB, 0x7F]] =
    List.map some [
      .bit_6_B, .bit_6_C, .bit_6_D, .bit_6_E, .bit_6_H, .bit_6_L, .bit_6_mHL, .bit_6_A, .bit_7_B, .bit_7_C, .bit_7_D,
      .bit_7_E, .bit_7_H, .bit_7_L, .bit_7_mHL, .bit_7_A] := rfl

theorem test_decode_cb_8 :
    List.map read [
      [0xCB, 0x80], [0xCB, 0x81], [0xCB, 0x82], [0xCB, 0x83], [0xCB, 0x84], [0xCB, 0x85], [0xCB, 0x86], [0xCB, 0x87],
      [0xCB, 0x88], [0xCB, 0x89], [0xCB, 0x8A], [0xCB, 0x8B], [0xCB, 0x8C], [0xCB, 0x8D], [0xCB, 0x8E], [0xCB, 0x8F]] =
    List.map some [
      .res_0_B, .res_0_C, .res_0_D, .res_0_E, .res_0_H, .res_0_L, .res_0_mHL, .res_0_A, .res_1_B, .res_1_C, .res_1_D,
      .res_1_E, .res_1_H, .res_1_L, .res_1_mHL, .res_1_A] := rfl

theorem test_decode_cb_9 :
    List.map read [
      [0xCB, 0x90], [0xCB, 0x91], [0xCB, 0x92], [0xCB, 0x93], [0xCB, 0x94], [0xCB, 0x95], [0xCB, 0x96], [0xCB, 0x97],
      [0xCB, 0x98], [0xCB, 0x99], [0xCB, 0x9A], [0xCB, 0x9B], [0xCB, 0x9C], [0xCB, 0x9D], [0xCB, 0x9E], [0xCB, 0x9F]] =
    List.map some [
      .res_2_B, .res_2_C, .res_2_D, .res_2_E, .res_2_H, .res_2_L, .res_2_mHL, .res_2_A, .res_3_B, .res_3_C, .res_3_D,
      .res_3_E, .res_3_H, .res_3_L, .res_3_mHL, .res_3_A] := rfl

theorem test_decode_cb_A :
    List.map read [
      [0xCB, 0xA0], [0xCB, 0xA1], [0xCB, 0xA2], [0xCB, 0xA3], [0xCB, 0xA4], [0xCB, 0xA5], [0xCB, 0xA6], [0xCB, 0xA7],
      [0xCB, 0xA8], [0xCB, 0xA9], [0xCB, 0xAA], [0xCB, 0xAB], [0xCB, 0xAC], [0xCB, 0xAD], [0xCB, 0xAE], [0xCB, 0xAF]] =
    List.map some [
      .res_4_B, .res_4_C, .res_4_D, .res_4_E, .res_4_H, .res_4_L, .res_4_mHL, .res_4_A, .res_5_B, .res_5_C, .res_5_D,
      .res_5_E, .res_5_H, .res_5_L, .res_5_mHL, .res_5_A] := rfl

theorem test_decode_cb_B :
    List.map read [
      [0xCB, 0xB0], [0xCB, 0xB1], [0xCB, 0xB2], [0xCB, 0xB3], [0xCB, 0xB4], [0xCB, 0xB5], [0xCB, 0xB6], [0xCB, 0xB7],
      [0xCB, 0xB8], [0xCB, 0xB9], [0xCB, 0xBA], [0xCB, 0xBB], [0xCB, 0xBC], [0xCB, 0xBD], [0xCB, 0xBE], [0xCB, 0xBF]] =
    List.map some [
      .res_6_B, .res_6_C, .res_6_D, .res_6_E, .res_6_H, .res_6_L, .res_6_mHL, .res_6_A, .res_7_B, .res_7_C, .res_7_D,
      .res_7_E, .res_7_H, .res_7_L, .res_7_mHL, .res_7_A] := rfl

theorem test_decode_cb_C :
    List.map read [
      [0xCB, 0xC0], [0xCB, 0xC1], [0xCB, 0xC2], [0xCB, 0xC3], [0xCB, 0xC4], [0xCB, 0xC5], [0xCB, 0xC6], [0xCB, 0xC7],
      [0xCB, 0xC8], [0xCB, 0xC9], [0xCB, 0xCA], [0xCB, 0xCB], [0xCB, 0xCC], [0xCB, 0xCD], [0xCB, 0xCE], [0xCB, 0xCF]] =
    List.map some [
      .set_0_B, .set_0_C, .set_0_D, .set_0_E, .set_0_H, .set_0_L, .set_0_mHL, .set_0_A, .set_1_B, .set_1_C, .set_1_D,
      .set_1_E, .set_1_H, .set_1_L, .set_1_mHL, .set_1_A] := rfl

theorem test_decode_cb_D :
    List.map read [
      [0xCB, 0xD0], [0xCB, 0xD1], [0xCB, 0xD2], [0xCB, 0xD3], [0xCB, 0xD4], [0xCB, 0xD5], [0xCB, 0xD6], [0xCB, 0xD7],
      [0xCB, 0xD8], [0xCB, 0xD9], [0xCB, 0xDA], [0xCB, 0xDB], [0xCB, 0xDC], [0xCB, 0xDD], [0xCB, 0xDE], [0xCB, 0xDF]] =
    List.map some [
      .set_2_B, .set_2_C, .set_2_D, .set_2_E, .set_2_H, .set_2_L, .set_2_mHL, .set_2_A, .set_3_B, .set_3_C, .set_3_D,
      .set_3_E, .set_3_H, .set_3_L, .set_3_mHL, .set_3_A] := rfl

theorem test_decode_cb_E :
    List.map read [
      [0xCB, 0xE0], [0xCB, 0xE1], [0xCB, 0xE2], [0xCB, 0xE3], [0xCB, 0xE4], [0xCB, 0xE5], [0xCB, 0xE6], [0xCB, 0xE7],
      [0xCB, 0xE8], [0xCB, 0xE9], [0xCB, 0xEA], [0xCB, 0xEB], [0xCB, 0xEC], [0xCB, 0xED], [0xCB, 0xEE], [0xCB, 0xEF]] =
    List.map some [
      .set_4_B, .set_4_C, .set_4_D, .set_4_E, .set_4_H, .set_4_L, .set_4_mHL, .set_4_A, .set_5_B, .set_5_C, .set_5_D,
      .set_5_E, .set_5_H, .set_5_L, .set_5_mHL, .set_5_A] := rfl

theorem test_decode_cb_F :
    List.map read [
      [0xCB, 0xF0], [0xCB, 0xF1], [0xCB, 0xF2], [0xCB, 0xF3], [0xCB, 0xF4], [0xCB, 0xF5], [0xCB, 0xF6], [0xCB, 0xF7],
      [0xCB, 0xF8], [0xCB, 0xF9], [0xCB, 0xFA], [0xCB, 0xFB], [0xCB, 0xFC], [0xCB, 0xFD], [0xCB, 0xFE], [0xCB, 0xFF]] =
    List.map some [
      .set_6_B, .set_6_C, .set_6_D, .set_6_E, .set_6_H, .set_6_L, .set_6_mHL, .set_6_A, .set_7_B, .set_7_C, .set_7_D,
      .set_7_E, .set_7_H, .set_7_L, .set_7_mHL, .set_7_A] := rfl

/-- A word spelled field by field: 10yyyxxx with y = 1 (ADC) and x = 6 ((HL)), R112. -/
theorem test_decode_fields_alu : read [0b10#2 ++ 0b001#3 ++ 0b110#3] = some .adc_A_mHL := rfl

/-- 00pp1001 with p = 3 (SP), R113. -/
theorem test_decode_fields_pair : read [0b00#2 ++ 0b11#2 ++ 0b1001#4] = some .add_HL_SP := rfl

/-- 0xCB, then 01yyyxxx with y = 7 and x = 0 (B), R114. -/
theorem test_decode_fields_cb : read [0xCB, 0b01#2 ++ 0b111#3 ++ 0b000#3] = some .bit_7_B := rfl

theorem test_decode_empty : decode [] = .error .noBytes := rfl

theorem test_decode_short : decode [0x01, 0x34] = .error (.truncated 0x01) := rfl

/-- The opcode table's numbering: a CB row is written 0xCB * 256 + b1 (log 7). -/
theorem test_tableWord : decodeTableWord 16 0xCB37 = some .swap_A ∧ decodeTableWord 8 0x01 = some (.ld_BC_n16 0) := ⟨rfl, rfl⟩

/-- The placed instruction runs as the first one after reset (log 6). -/
theorem test_withFetchWord : step (State.reset.withFetchWord 16 0x5A06) =
    .next { State.reset.withFetchWord 16 0x5A06 with
      b := 0x5A, pc := 0x0102, divCounter := 8, stepCycles := 8, frameCycles := 8 } := rfl

/-! ### One step (`Step` of R360) on code at 0xC000, from the vectors of 95_test_vectors.md sections 2.1 to 2.6 -/

/-- Power-on with these bytes at 0xC000, pc there, and this window byte beside them. -/
def codeAt (s : State) (code : List Byte) : State :=
  (((s.setWin 0xC000 (code.getD 0 0)).setWin 0xC001 (code.getD 1 0)).setWin 0xC002 (code.getD 2 0))

/-- The state after the step; where there is none, `s`, whose pc 0x0100 no test expects. -/
def after (s : State) (code : List Byte) : State :=
  match coreStep { codeAt s code with pc := 0xC000 } with
  | .next t => t
  | _ => s

abbrev s0 : State := State.reset

/-- `LD B,C`, 41; start: C=0x5A. -/
theorem test_R132 :
    let t := after { s0 with c := 0x5A } [0x41]
    t.a = 0x01 ∧ t.f = 0xB0 ∧ t.b = 0x5A ∧ t.pc = 0xC001 ∧ t.stepCycles = 4 := by decide

/-- `LD A,(HL)`, 7E; start: HL=0xE123, [0xC123]=0x77. -/
theorem test_R133 :
    let t := after (({ s0 with h := 0xE1, l := 0x23 } : State).setWin 0xC123 0x77) [0x7E]
    t.a = 0x77 ∧ t.f = 0xB0 ∧ t.pc = 0xC001 ∧ t.stepCycles = 8 := by decide

/-- `LD (HL),B`, 70; start: HL=0xFF04, div_counter=0x1234, B=0x99. -/
theorem test_R134 :
    let t := after { s0 with h := 0xFF, l := 0x04, divCounter := 0x1234, b := 0x99 } [0x70]
    t.a = 0x01 ∧ t.f = 0xB0 ∧ t.pc = 0xC001 ∧ t.divCounter = 0x0000 ∧ t.stepCycles = 8 := by decide

/-- `LD (HL),H`, 74; start: HL=0xC234. -/
theorem test_R134_2 :
    let t := after { s0 with h := 0xC2, l := 0x34 } [0x74]
    t.a = 0x01 ∧ t.f = 0xB0 ∧ t.pc = 0xC001 ∧ t.winByte 0xC234 = 0xC2 ∧ t.stepCycles = 8 := by decide

/-- `LD E,n8`, 1E 80; start: power-on. -/
theorem test_R135 :
    let t := after s0 [0x1E, 0x80]
    t.a = 0x01 ∧ t.f = 0xB0 ∧ t.e = 0x80 ∧ t.pc = 0xC002 ∧ t.stepCycles = 8 := by decide

/-- `LD (HL),n8`, 36 42; start: HL=0xFEA0. -/
theorem test_R136 :
    let t := after { s0 with h := 0xFE, l := 0xA0 } [0x36, 0x42]
    t.a = 0x01 ∧ t.f = 0xB0 ∧ t.pc = 0xC002 ∧ t.stepCycles = 12 ∧ t.winByte 0xFEA0 = 0 := by decide

/-- `LD (HL),n8`, 36 42; start: HL=0xE000. -/
theorem test_R136_2 :
    let t := after { s0 with h := 0xE0, l := 0x00 } [0x36, 0x42]
    t.a = 0x01 ∧ t.f = 0xB0 ∧ t.pc = 0xC002 ∧ t.winByte 0xC000 = 0x42 ∧ t.stepCycles = 12 := by decide

/-- `LD A,(BC)`, 0A; start: BC=0x0147. -/
theorem test_R137 :
    let t := after { s0 with b := 0x01, c := 0x47 } [0x0A]
    t.a = 0x00 ∧ t.f = 0xB0 ∧ t.pc = 0xC001 ∧ t.stepCycles = 8 := by decide

/-- `LD A,(DE)`, 1A; start: DE=0xA000. -/
theorem test_R138 :
    let t := after { s0 with d := 0xA0, e := 0x00 } [0x1A]
    t.a = 0xFF ∧ t.f = 0xB0 ∧ t.pc = 0xC001 ∧ t.stepCycles = 8 := by decide

/-- `LD (BC),A`, 02; start: BC=0xFF0F, A=0x1F. -/
theorem test_R139 :
    let t := after { s0 with b := 0xFF, c := 0x0F, a := 0x1F } [0x02]
    t.a = 0x1F ∧ t.f = 0xB0 ∧ t.pc = 0xC001 ∧ t.winByte 0xFF0F = 0x1F ∧ t.stepCycles = 8 := by decide

/-- `LD (DE),A`, 12; start: DE=0xC300, A=0x3C. -/
theorem test_R140 :
    let t := after { s0 with d := 0xC3, e := 0x00, a := 0x3C } [0x12]
    t.a = 0x3C ∧ t.f = 0xB0 ∧ t.pc = 0xC001 ∧ t.winByte 0xC300 = 0x3C ∧ t.stepCycles = 8 := by decide

/-- `LD A,(HL+)`, 2A; start: HL=0xFFFF, [0xFFFF]=0x1D. -/
theorem test_R141 :
    let t := after (({ s0 with h := 0xFF, l := 0xFF } : State).setWin 0xFFFF 0x1D) [0x2A]
    t.a = 0x1D ∧ t.f = 0xB0 ∧ t.h = 0x00 ∧ t.l = 0x00 ∧ t.pc = 0xC001 ∧ t.stepCycles = 8 := by decide

/-- `LD A,(HL-)`, 3A; start: HL=0x0000. -/
theorem test_R142 :
    let t := after { s0 with h := 0x00, l := 0x00 } [0x3A]
    t.a = 0x00 ∧ t.f = 0xB0 ∧ t.h = 0xFF ∧ t.l = 0xFF ∧ t.pc = 0xC001 ∧ t.stepCycles = 8 := by decide

/-- `LD (HL+),A`, 22; start: HL=0xC0FF, A=0x11. -/
theorem test_R143 :
    let t := after { s0 with h := 0xC0, l := 0xFF, a := 0x11 } [0x22]
    t.a = 0x11 ∧ t.f = 0xB0 ∧ t.h = 0xC1 ∧ t.l = 0x00 ∧ t.pc = 0xC001 ∧ t.winByte 0xC0FF = 0x11 ∧
      t.stepCycles = 8 := by decide

/-- `LD (HL-),A`, 32; start: HL=0xC100, A=0x22. -/
theorem test_R144 :
    let t := after { s0 with h := 0xC1, l := 0x00, a := 0x22 } [0x32]
    t.a = 0x22 ∧ t.f = 0xB0 ∧ t.h = 0xC0 ∧ t.l = 0xFF ∧ t.pc = 0xC001 ∧ t.winByte 0xC100 = 0x22 ∧
      t.stepCycles = 8 := by decide

/-- `LD A,(a16)`, FA 04 FF; start: div_counter=0xAB00. -/
theorem test_R145 :
    let t := after { s0 with divCounter := 0xAB00 } [0xFA, 0x04, 0xFF]
    t.a = 0xAB ∧ t.f = 0xB0 ∧ t.pc = 0xC003 ∧ t.stepCycles = 16 := by decide

/-- `LD (a16),A`, EA 00 D0; start: A=0x5E. -/
theorem test_R146 :
    let t := after { s0 with a := 0x5E } [0xEA, 0x00, 0xD0]
    t.a = 0x5E ∧ t.f = 0xB0 ∧ t.pc = 0xC003 ∧ t.winByte 0xD000 = 0x5E ∧ t.stepCycles = 16 := by decide

/-- `LDH A,(a8)`, F0 00; start: [0xFF00]=0x20, joy_latch=0xF7. -/
theorem test_R147 :
    let t := after (({ s0 with joyLatch := 0xF7 } : State).setWin 0xFF00 0x20) [0xF0, 0x00]
    t.a = 0xE7 ∧ t.f = 0xB0 ∧ t.pc = 0xC002 ∧ t.stepCycles = 12 := by decide

/-- `LDH A,(a8)`, F0 00; start: [0xFF00]=0x10, joy_latch=0xEF. -/
theorem test_R147_2 :
    let t := after (({ s0 with joyLatch := 0xEF } : State).setWin 0xFF00 0x10) [0xF0, 0x00]
    t.a = 0xDE ∧ t.f = 0xB0 ∧ t.pc = 0xC002 ∧ t.stepCycles = 12 := by decide

/-- `LDH (a8),A`, E0 07; start: A=0x05. -/
theorem test_R148 :
    let t := after { s0 with a := 0x05 } [0xE0, 0x07]
    t.a = 0x05 ∧ t.f = 0xB0 ∧ t.pc = 0xC002 ∧ t.timerCounter = 16 ∧ t.winByte 0xFF07 = 0x05 ∧
      t.stepCycles = 12 := by decide

/-- `LD A,(C)`, F2; start: C=0x80, [0xFF80]=0x66. -/
theorem test_R149 :
    let t := after (({ s0 with c := 0x80 } : State).setWin 0xFF80 0x66) [0xF2]
    t.a = 0x66 ∧ t.f = 0xB0 ∧ t.pc = 0xC001 ∧ t.stepCycles = 8 := by decide

/-- `LD (C),A`, E2; start: C=0xFF, A=0x1F. -/
theorem test_R150 :
    let t := after { s0 with c := 0xFF, a := 0x1F } [0xE2]
    t.a = 0x1F ∧ t.f = 0xB0 ∧ t.pc = 0xC001 ∧ t.winByte 0xFFFF = 0x1F ∧ t.stepCycles = 8 := by decide

/-- `LD BC,n16`, 01 34 12; start: power-on. -/
theorem test_R151 :
    let t := after s0 [0x01, 0x34, 0x12]
    t.a = 0x01 ∧ t.f = 0xB0 ∧ t.b = 0x12 ∧ t.c = 0x34 ∧ t.pc = 0xC003 ∧ t.stepCycles = 12 := by decide

/-- `LD (a16),SP`, 08 00 C1; start: SP=0xABCD. -/
theorem test_R152 :
    let t := after { s0 with sp := 0xABCD } [0x08, 0x00, 0xC1]
    t.a = 0x01 ∧ t.f = 0xB0 ∧ t.pc = 0xC003 ∧ t.winByte 0xC100 = 0xCD ∧ t.winByte 0xC101 = 0xAB ∧
      t.stepCycles = 20 := by decide

/-- `LD SP,HL`, F9; start: HL=0xC800. -/
theorem test_R153 :
    let t := after { s0 with h := 0xC8, l := 0x00 } [0xF9]
    t.a = 0x01 ∧ t.f = 0xB0 ∧ t.sp = 0xC800 ∧ t.pc = 0xC001 ∧ t.stepCycles = 8 := by decide

/-- `PUSH BC`, C5; start: BC=0x1234. -/
theorem test_R154 :
    let t := after { s0 with b := 0x12, c := 0x34 } [0xC5]
    t.a = 0x01 ∧ t.f = 0xB0 ∧ t.sp = 0xFFFC ∧ t.pc = 0xC001 ∧ t.winByte 0xFFFC = 0x34 ∧ t.winByte 0xFFFD = 0x12 ∧
      t.stepCycles = 16 := by decide

/-- `POP DE`, D1; start: SP=0xDFFE, [0xDFFE]=0x34, [0xDFFF]=0x12. -/
theorem test_R155 :
    let t := after (({ s0 with sp := 0xDFFE } : State).setWin 0xDFFE 0x34 |>.setWin 0xDFFF 0x12) [0xD1]
    t.a = 0x01 ∧ t.f = 0xB0 ∧ t.d = 0x12 ∧ t.e = 0x34 ∧ t.sp = 0xE000 ∧ t.pc = 0xC001 ∧ t.stepCycles = 12 := by decide

/-- `POP HL`, E1; start: SP=0xFFFF, [0xFFFF]=0x0D. -/
theorem test_R155_2 :
    let t := after (({ s0 with sp := 0xFFFF } : State).setWin 0xFFFF 0x0D) [0xE1]
    t.a = 0x01 ∧ t.f = 0xB0 ∧ t.h = 0x00 ∧ t.l = 0x0D ∧ t.sp = 0x0001 ∧ t.pc = 0xC001 ∧ t.stepCycles = 12 := by decide

/-- `POP AF`, F1; start: SP=0xDFFE, [0xDFFE]=0xFF, [0xDFFF]=0x00. -/
theorem test_R156 :
    let t := after (({ s0 with sp := 0xDFFE } : State).setWin 0xDFFE 0xFF |>.setWin 0xDFFF 0x00) [0xF1]
    t.a = 0x00 ∧ t.f = 0xF0 ∧ t.sp = 0xE000 ∧ t.pc = 0xC001 ∧ t.stepCycles = 12 := by decide

/-- `ADD A,B`, 80; start: A=0x3A, B=0xC6. -/
theorem test_R187 :
    let t := after { s0 with a := 0x3A, b := 0xC6 } [0x80]
    t.a = 0x00 ∧ t.f = 0xB0 ∧ t.pc = 0xC001 ∧ t.stepCycles = 4 := by decide

/-- `ADD A,B`, 80; start: A=0x0F, B=0x01. -/
theorem test_R187_2 :
    let t := after { s0 with a := 0x0F, b := 0x01 } [0x80]
    t.a = 0x10 ∧ t.f = 0x20 ∧ t.pc = 0xC001 ∧ t.stepCycles = 4 := by decide

/-- `ADD A,(HL)`, 86; start: A=0x12, HL=0xC100, [0xC100]=0x34. -/
theorem test_R188 :
    let t := after (({ s0 with a := 0x12, h := 0xC1, l := 0x00 } : State).setWin 0xC100 0x34) [0x86]
    t.a = 0x46 ∧ t.f = 0x00 ∧ t.pc = 0xC001 ∧ t.stepCycles = 8 := by decide

/-- `ADD A,n8`, C6 FF; start: A=0x01. -/
theorem test_R189 :
    let t := after { s0 with a := 0x01 } [0xC6, 0xFF]
    t.a = 0x00 ∧ t.f = 0xB0 ∧ t.pc = 0xC002 ∧ t.stepCycles = 8 := by decide

/-- `ADC A,C`, 89; start: A=0xFF, C=0x00, F=0x10. -/
theorem test_R190 :
    let t := after { s0 with a := 0xFF, c := 0x00, f := 0x10 } [0x89]
    t.a = 0x00 ∧ t.f = 0xB0 ∧ t.pc = 0xC001 ∧ t.stepCycles = 4 := by decide

/-- `ADC A,n8`, CE 0F; start: A=0xE1, F=0x10. -/
theorem test_R192 :
    let t := after { s0 with a := 0xE1, f := 0x10 } [0xCE, 0x0F]
    t.a = 0xF1 ∧ t.f = 0x20 ∧ t.pc = 0xC002 ∧ t.stepCycles = 8 := by decide

/-- `SUB A,B`, 90; start: A=0x3E, B=0x3E. -/
theorem test_R193 :
    let t := after { s0 with a := 0x3E, b := 0x3E } [0x90]
    t.a = 0x00 ∧ t.f = 0xC0 ∧ t.pc = 0xC001 ∧ t.stepCycles = 4 := by decide

/-- `SUB A,n8`, D6 01; start: A=0x00. -/
theorem test_R195 :
    let t := after { s0 with a := 0x00 } [0xD6, 0x01]
    t.a = 0xFF ∧ t.f = 0x70 ∧ t.pc = 0xC002 ∧ t.stepCycles = 8 := by decide

/-- `SBC A,H`, 9C; start: A=0x3B, H=0x2A, F=0x10. -/
theorem test_R196 :
    let t := after { s0 with a := 0x3B, h := 0x2A, f := 0x10 } [0x9C]
    t.a = 0x10 ∧ t.f = 0x40 ∧ t.pc = 0xC001 ∧ t.stepCycles = 4 := by decide

/-- `SBC A,n8`, DE 00; start: A=0x00, F=0x10. -/
theorem test_R198 :
    let t := after { s0 with a := 0x00, f := 0x10 } [0xDE, 0x00]
    t.a = 0xFF ∧ t.f = 0x70 ∧ t.pc = 0xC002 ∧ t.stepCycles = 8 := by decide

/-- `AND A,C`, A1; start: A=0x5A, C=0x3F. -/
theorem test_R199 :
    let t := after { s0 with a := 0x5A, c := 0x3F } [0xA1]
    t.a = 0x1A ∧ t.f = 0x20 ∧ t.pc = 0xC001 ∧ t.stepCycles = 4 := by decide

/-- `AND A,n8`, E6 00; start: A=0xFF. -/
theorem test_R201 :
    let t := after { s0 with a := 0xFF } [0xE6, 0x00]
    t.a = 0x00 ∧ t.f = 0xA0 ∧ t.pc = 0xC002 ∧ t.stepCycles = 8 := by decide

/-- `XOR A,A`, AF; start: A=0x5A. -/
theorem test_R202 :
    let t := after { s0 with a := 0x5A } [0xAF]
    t.a = 0x00 ∧ t.f = 0x80 ∧ t.pc = 0xC001 ∧ t.stepCycles = 4 := by decide

/-- `XOR A,n8`, EE 0F; start: A=0xF0, F=0x70. -/
theorem test_R204 :
    let t := after { s0 with a := 0xF0, f := 0x70 } [0xEE, 0x0F]
    t.a = 0xFF ∧ t.f = 0x00 ∧ t.pc = 0xC002 ∧ t.stepCycles = 8 := by decide

/-- `OR A,B`, B0; start: A=0x00, B=0x00, F=0x30. -/
theorem test_R205 :
    let t := after { s0 with a := 0x00, b := 0x00, f := 0x30 } [0xB0]
    t.a = 0x00 ∧ t.f = 0x80 ∧ t.pc = 0xC001 ∧ t.stepCycles = 4 := by decide

/-- `OR A,n8`, F6 81; start: A=0x10. -/
theorem test_R207 :
    let t := after { s0 with a := 0x10 } [0xF6, 0x81]
    t.a = 0x91 ∧ t.f = 0x00 ∧ t.pc = 0xC002 ∧ t.stepCycles = 8 := by decide

/-- `CP A,B`, B8; start: A=0x3C, B=0x2F. -/
theorem test_R208 :
    let t := after { s0 with a := 0x3C, b := 0x2F } [0xB8]
    t.a = 0x3C ∧ t.f = 0x60 ∧ t.pc = 0xC001 ∧ t.stepCycles = 4 := by decide

/-- `CP A,(HL)`, BE; start: A=0x3C, HL=0xC100, [0xC100]=0x40. -/
theorem test_R209 :
    let t := after (({ s0 with a := 0x3C, h := 0xC1, l := 0x00 } : State).setWin 0xC100 0x40) [0xBE]
    t.a = 0x3C ∧ t.f = 0x50 ∧ t.pc = 0xC001 ∧ t.stepCycles = 8 := by decide

/-- `CP A,n8`, FE 3C; start: A=0x3C. -/
theorem test_R210 :
    let t := after { s0 with a := 0x3C } [0xFE, 0x3C]
    t.a = 0x3C ∧ t.f = 0xC0 ∧ t.pc = 0xC002 ∧ t.stepCycles = 8 := by decide

/-- `INC A`, 3C; start: A=0xFF, F=0x10. -/
theorem test_R211 :
    let t := after { s0 with a := 0xFF, f := 0x10 } [0x3C]
    t.a = 0x00 ∧ t.f = 0xB0 ∧ t.pc = 0xC001 ∧ t.stepCycles = 4 := by decide

/-- `INC (HL)`, 34; start: HL=0xC100, [0xC100]=0x7F. -/
theorem test_R212 :
    let t := after (({ s0 with h := 0xC1, l := 0x00 } : State).setWin 0xC100 0x7F) [0x34]
    t.a = 0x01 ∧ t.f = 0x30 ∧ t.pc = 0xC001 ∧ t.winByte 0xC100 = 0x80 ∧ t.stepCycles = 12 := by decide

/-- `DEC C`, 0D; start: C=0x01, F=0x00. -/
theorem test_R213 :
    let t := after { s0 with c := 0x01, f := 0x00 } [0x0D]
    t.a = 0x01 ∧ t.f = 0xC0 ∧ t.c = 0x00 ∧ t.pc = 0xC001 ∧ t.stepCycles = 4 := by decide

/-- `DEC (HL)`, 35; start: HL=0xC100, [0xC100]=0x00. -/
theorem test_R214 :
    let t := after (({ s0 with h := 0xC1, l := 0x00 } : State).setWin 0xC100 0x00) [0x35]
    t.a = 0x01 ∧ t.f = 0x70 ∧ t.pc = 0xC001 ∧ t.winByte 0xC100 = 0xFF ∧ t.stepCycles = 12 := by decide

/-- `DAA`, 27; start: A=0x0F, F=0x00. -/
theorem test_R215 :
    let t := after { s0 with a := 0x0F, f := 0x00 } [0x27]
    t.a = 0x15 ∧ t.f = 0x00 ∧ t.pc = 0xC001 ∧ t.stepCycles = 4 := by decide

/-- `DAA`, 27; start: A=0x7D, F=0x00. -/
theorem test_R215_2 :
    let t := after { s0 with a := 0x7D, f := 0x00 } [0x27]
    t.a = 0x83 ∧ t.f = 0x00 ∧ t.pc = 0xC001 ∧ t.stepCycles = 4 := by decide

/-- `DAA`, 27; start: A=0x9A, F=0x00. -/
theorem test_R215_3 :
    let t := after { s0 with a := 0x9A, f := 0x00 } [0x27]
    t.a = 0x00 ∧ t.f = 0x90 ∧ t.pc = 0xC001 ∧ t.stepCycles = 4 := by decide

/-- `CPL`, 2F; start: A=0x35, F=0x90. -/
theorem test_R216 :
    let t := after { s0 with a := 0x35, f := 0x90 } [0x2F]
    t.a = 0xCA ∧ t.f = 0xF0 ∧ t.pc = 0xC001 ∧ t.stepCycles = 4 := by decide

/-- `SCF`, 37; start: F=0xE0. -/
theorem test_R217 :
    let t := after { s0 with f := 0xE0 } [0x37]
    t.a = 0x01 ∧ t.f = 0x90 ∧ t.pc = 0xC001 ∧ t.stepCycles = 4 := by decide

/-- `CCF`, 3F; start: F=0xB0. -/
theorem test_R218 :
    let t := after { s0 with f := 0xB0 } [0x3F]
    t.a = 0x01 ∧ t.f = 0x80 ∧ t.pc = 0xC001 ∧ t.stepCycles = 4 := by decide

/-- `RLCA`, 07; start: A=0x85, F=0x00. -/
theorem test_R219 :
    let t := after { s0 with a := 0x85, f := 0x00 } [0x07]
    t.a = 0x0B ∧ t.f = 0x10 ∧ t.pc = 0xC001 ∧ t.stepCycles = 4 := by decide

/-- `RRCA`, 0F; start: A=0x01, F=0x00. -/
theorem test_R220 :
    let t := after { s0 with a := 0x01, f := 0x00 } [0x0F]
    t.a = 0x80 ∧ t.f = 0x10 ∧ t.pc = 0xC001 ∧ t.stepCycles = 4 := by decide

/-- `RLA`, 17; start: A=0x80, F=0x00. -/
theorem test_R221 :
    let t := after { s0 with a := 0x80, f := 0x00 } [0x17]
    t.a = 0x00 ∧ t.f = 0x10 ∧ t.pc = 0xC001 ∧ t.stepCycles = 4 := by decide

/-- `RRA`, 1F; start: A=0x01, F=0x10. -/
theorem test_R222 :
    let t := after { s0 with a := 0x01, f := 0x10 } [0x1F]
    t.a = 0x80 ∧ t.f = 0x10 ∧ t.pc = 0xC001 ∧ t.stepCycles = 4 := by decide

/-- `ADD HL,BC`, 09; start: HL=0x0FFF, BC=0x0001, F=0x80. -/
theorem test_R230 :
    let t := after { s0 with h := 0x0F, l := 0xFF, b := 0x00, c := 0x01, f := 0x80 } [0x09]
    t.a = 0x01 ∧ t.f = 0xA0 ∧ t.h = 0x10 ∧ t.l = 0x00 ∧ t.pc = 0xC001 ∧ t.stepCycles = 8 := by decide

/-- `ADD HL,DE`, 19; start: HL=0xFFFF, DE=0x0001, F=0x00. -/
theorem test_R230_2 :
    let t := after { s0 with h := 0xFF, l := 0xFF, d := 0x00, e := 0x01, f := 0x00 } [0x19]
    t.a = 0x01 ∧ t.f = 0x30 ∧ t.h = 0x00 ∧ t.l = 0x00 ∧ t.pc = 0xC001 ∧ t.stepCycles = 8 := by decide

/-- `INC SP`, 33; start: SP=0xFFFF, F=0x00. -/
theorem test_R231 :
    let t := after { s0 with sp := 0xFFFF, f := 0x00 } [0x33]
    t.a = 0x01 ∧ t.f = 0x00 ∧ t.sp = 0x0000 ∧ t.pc = 0xC001 ∧ t.stepCycles = 8 := by decide

/-- `DEC DE`, 1B; start: DE=0x0000, F=0x00. -/
theorem test_R232 :
    let t := after { s0 with d := 0x00, e := 0x00, f := 0x00 } [0x1B]
    t.a = 0x01 ∧ t.f = 0x00 ∧ t.d = 0xFF ∧ t.e = 0xFF ∧ t.pc = 0xC001 ∧ t.stepCycles = 8 := by decide

/-- `ADD SP,e8`, E8 FF; start: SP=0xFFFE, F=0x80. -/
theorem test_R233 :
    let t := after { s0 with sp := 0xFFFE, f := 0x80 } [0xE8, 0xFF]
    t.a = 0x01 ∧ t.f = 0x30 ∧ t.sp = 0xFFFD ∧ t.pc = 0xC002 ∧ t.stepCycles = 16 := by decide

/-- `ADD SP,e8`, E8 01; start: SP=0x00FF, F=0x00. -/
theorem test_R233_2 :
    let t := after { s0 with sp := 0x00FF, f := 0x00 } [0xE8, 0x01]
    t.a = 0x01 ∧ t.f = 0x30 ∧ t.sp = 0x0100 ∧ t.pc = 0xC002 ∧ t.stepCycles = 16 := by decide

/-- `LD HL,SP+e8`, F8 02; start: SP=0xFFF8, F=0x80. -/
theorem test_R234 :
    let t := after { s0 with sp := 0xFFF8, f := 0x80 } [0xF8, 0x02]
    t.a = 0x01 ∧ t.f = 0x00 ∧ t.h = 0xFF ∧ t.l = 0xFA ∧ t.pc = 0xC002 ∧ t.stepCycles = 12 := by decide

/-- `JP a16`, C3 50 01; start: power-on. -/
theorem test_R250 :
    let t := after s0 [0xC3, 0x50, 0x01]
    t.a = 0x01 ∧ t.f = 0xB0 ∧ t.pc = 0x0150 ∧ t.stepCycles = 16 := by decide

/-- `JP NZ,a16`, C2 00 02; start: F=0x80. -/
theorem test_R251 :
    let t := after { s0 with f := 0x80 } [0xC2, 0x00, 0x02]
    t.a = 0x01 ∧ t.f = 0x80 ∧ t.pc = 0xC003 ∧ t.stepCycles = 12 := by decide

/-- `JP NZ,a16`, C2 00 02; start: F=0x00. -/
theorem test_R251_2 :
    let t := after { s0 with f := 0x00 } [0xC2, 0x00, 0x02]
    t.a = 0x01 ∧ t.f = 0x00 ∧ t.pc = 0x0200 ∧ t.stepCycles = 16 := by decide

/-- `JP HL`, E9; start: HL=0x4000. -/
theorem test_R252 :
    let t := after { s0 with h := 0x40, l := 0x00 } [0xE9]
    t.a = 0x01 ∧ t.f = 0xB0 ∧ t.pc = 0x4000 ∧ t.stepCycles = 4 := by decide

/-- `JR e8`, 18 FE; start: power-on. -/
theorem test_R253 :
    let t := after s0 [0x18, 0xFE]
    t.a = 0x01 ∧ t.f = 0xB0 ∧ t.pc = 0xC000 ∧ t.stepCycles = 12 := by decide

/-- `JR e8`, 18 7F; start: power-on. -/
theorem test_R253_2 :
    let t := after s0 [0x18, 0x7F]
    t.a = 0x01 ∧ t.f = 0xB0 ∧ t.pc = 0xC081 ∧ t.stepCycles = 12 := by decide

/-- `JR Z,e8`, 28 10; start: F=0x00. -/
theorem test_R254 :
    let t := after { s0 with f := 0x00 } [0x28, 0x10]
    t.a = 0x01 ∧ t.f = 0x00 ∧ t.pc = 0xC002 ∧ t.stepCycles = 8 := by decide

/-- `JR NC,e8`, 30 F0; start: F=0x00. -/
theorem test_R254_2 :
    let t := after { s0 with f := 0x00 } [0x30, 0xF0]
    t.a = 0x01 ∧ t.f = 0x00 ∧ t.pc = 0xBFF2 ∧ t.stepCycles = 12 := by decide

/-- `CALL a16`, CD 34 12; start: power-on. -/
theorem test_R255 :
    let t := after s0 [0xCD, 0x34, 0x12]
    t.a = 0x01 ∧ t.f = 0xB0 ∧ t.sp = 0xFFFC ∧ t.pc = 0x1234 ∧ t.winByte 0xFFFC = 0x03 ∧ t.winByte 0xFFFD = 0xC0 ∧
      t.stepCycles = 24 := by decide

/-- `CALL NC,a16`, D4 34 12; start: F=0x10. -/
theorem test_R256 :
    let t := after { s0 with f := 0x10 } [0xD4, 0x34, 0x12]
    t.a = 0x01 ∧ t.f = 0x10 ∧ t.pc = 0xC003 ∧ t.stepCycles = 12 := by decide

/-- `CALL Z,a16`, CC 00 30; start: F=0x80, SP=0xD000. -/
theorem test_R256_2 :
    let t := after { s0 with f := 0x80, sp := 0xD000 } [0xCC, 0x00, 0x30]
    t.a = 0x01 ∧ t.f = 0x80 ∧ t.sp = 0xCFFE ∧ t.pc = 0x3000 ∧ t.winByte 0xCFFE = 0x03 ∧ t.winByte 0xCFFF = 0xC0 ∧
      t.stepCycles = 24 := by decide

/-- `RET`, C9; start: SP=0xFFFC, [0xFFFC]=0x53, [0xFFFD]=0x01. -/
theorem test_R257 :
    let t := after (({ s0 with sp := 0xFFFC } : State).setWin 0xFFFC 0x53 |>.setWin 0xFFFD 0x01) [0xC9]
    t.a = 0x01 ∧ t.f = 0xB0 ∧ t.sp = 0xFFFE ∧ t.pc = 0x0153 ∧ t.stepCycles = 16 := by decide

/-- `RET C`, D8; start: SP=0xFFFC, F=0x00. -/
theorem test_R258 :
    let t := after { s0 with sp := 0xFFFC, f := 0x00 } [0xD8]
    t.a = 0x01 ∧ t.f = 0x00 ∧ t.pc = 0xC001 ∧ t.stepCycles = 8 := by decide

/-- `RET Z`, C8; start: SP=0xFFFC, [0xFFFC]=0x53, [0xFFFD]=0x01, F=0x80. -/
theorem test_R258_2 :
    let t := after (({ s0 with sp := 0xFFFC, f := 0x80 } : State).setWin 0xFFFC 0x53 |>.setWin 0xFFFD 0x01) [0xC8]
    t.a = 0x01 ∧ t.f = 0x80 ∧ t.sp = 0xFFFE ∧ t.pc = 0x0153 ∧ t.stepCycles = 20 := by decide

/-- `RETI`, D9; start: SP=0xFFFC, [0xFFFC]=0x00, [0xFFFD]=0x02. -/
theorem test_R259 :
    let t := after (({ s0 with sp := 0xFFFC } : State).setWin 0xFFFC 0x00 |>.setWin 0xFFFD 0x02) [0xD9]
    t.a = 0x01 ∧ t.f = 0xB0 ∧ t.sp = 0xFFFE ∧ t.pc = 0x0200 ∧ t.ime = true ∧ t.stepCycles = 16 := by decide

/-- `RST 0x28`, EF; start: power-on. -/
theorem test_R260 :
    let t := after s0 [0xEF]
    t.a = 0x01 ∧ t.f = 0xB0 ∧ t.sp = 0xFFFC ∧ t.pc = 0x0028 ∧ t.winByte 0xFFFC = 0x01 ∧ t.winByte 0xFFFD = 0xC0 ∧
      t.stepCycles = 16 := by decide

/-- `RST 0x00`, C7; start: SP=0x0001. -/
theorem test_R260_2 :
    let t := after { s0 with sp := 0x0001 } [0xC7]
    t.a = 0x01 ∧ t.f = 0xB0 ∧ t.sp = 0xFFFF ∧ t.pc = 0x0000 ∧ t.winByte 0xFFFF = 0x01 ∧ t.stepCycles = 16 := by decide

/-- `RLC B`, CB 00; start: B=0x80, F=0x00. -/
theorem test_R281 :
    let t := after { s0 with b := 0x80, f := 0x00 } [0xCB, 0x00]
    t.a = 0x01 ∧ t.f = 0x10 ∧ t.b = 0x01 ∧ t.pc = 0xC002 ∧ t.stepCycles = 8 := by decide

/-- `RLC (HL)`, CB 06; start: HL=0xC100, [0xC100]=0x01. -/
theorem test_R282 :
    let t := after (({ s0 with h := 0xC1, l := 0x00 } : State).setWin 0xC100 0x01) [0xCB, 0x06]
    t.a = 0x01 ∧ t.f = 0x00 ∧ t.pc = 0xC002 ∧ t.winByte 0xC100 = 0x02 ∧ t.stepCycles = 16 := by decide

/-- `RRC C`, CB 09; start: C=0x01, F=0x00. -/
theorem test_R283 :
    let t := after { s0 with c := 0x01, f := 0x00 } [0xCB, 0x09]
    t.a = 0x01 ∧ t.f = 0x10 ∧ t.c = 0x80 ∧ t.pc = 0xC002 ∧ t.stepCycles = 8 := by decide

/-- `RRC (HL)`, CB 0E; start: HL=0xC100, [0xC100]=0x02. -/
theorem test_R284 :
    let t := after (({ s0 with h := 0xC1, l := 0x00 } : State).setWin 0xC100 0x02) [0xCB, 0x0E]
    t.a = 0x01 ∧ t.f = 0x00 ∧ t.pc = 0xC002 ∧ t.winByte 0xC100 = 0x01 ∧ t.stepCycles = 16 := by decide

/-- `RL D`, CB 12; start: D=0x80, F=0x00. -/
theorem test_R285 :
    let t := after { s0 with d := 0x80, f := 0x00 } [0xCB, 0x12]
    t.a = 0x01 ∧ t.f = 0x90 ∧ t.d = 0x00 ∧ t.pc = 0xC002 ∧ t.stepCycles = 8 := by decide

/-- `RL D`, CB 12; start: D=0x00, F=0x10. -/
theorem test_R285_2 :
    let t := after { s0 with d := 0x00, f := 0x10 } [0xCB, 0x12]
    t.a = 0x01 ∧ t.f = 0x00 ∧ t.d = 0x01 ∧ t.pc = 0xC002 ∧ t.stepCycles = 8 := by decide

/-- `RL (HL)`, CB 16; start: HL=0xC100, [0xC100]=0x7F, F=0x10. -/
theorem test_R286 :
    let t := after (({ s0 with h := 0xC1, l := 0x00, f := 0x10 } : State).setWin 0xC100 0x7F) [0xCB, 0x16]
    t.a = 0x01 ∧ t.f = 0x00 ∧ t.pc = 0xC002 ∧ t.winByte 0xC100 = 0xFF ∧ t.stepCycles = 16 := by decide

/-- `RR E`, CB 1B; start: E=0x01, F=0x00. -/
theorem test_R287 :
    let t := after { s0 with e := 0x01, f := 0x00 } [0xCB, 0x1B]
    t.a = 0x01 ∧ t.f = 0x90 ∧ t.e = 0x00 ∧ t.pc = 0xC002 ∧ t.stepCycles = 8 := by decide

/-- `RR (HL)`, CB 1E; start: HL=0xC100, [0xC100]=0x00, F=0x10. -/
theorem test_R288 :
    let t := after (({ s0 with h := 0xC1, l := 0x00, f := 0x10 } : State).setWin 0xC100 0x00) [0xCB, 0x1E]
    t.a = 0x01 ∧ t.f = 0x00 ∧ t.pc = 0xC002 ∧ t.winByte 0xC100 = 0x80 ∧ t.stepCycles = 16 := by decide

/-- `SLA H`, CB 24; start: H=0x80, F=0x00. -/
theorem test_R289 :
    let t := after { s0 with h := 0x80, f := 0x00 } [0xCB, 0x24]
    t.a = 0x01 ∧ t.f = 0x90 ∧ t.h = 0x00 ∧ t.pc = 0xC002 ∧ t.stepCycles = 8 := by decide

/-- `SLA (HL)`, CB 26; start: HL=0xC100, [0xC100]=0x41. -/
theorem test_R290 :
    let t := after (({ s0 with h := 0xC1, l := 0x00 } : State).setWin 0xC100 0x41) [0xCB, 0x26]
    t.a = 0x01 ∧ t.f = 0x00 ∧ t.pc = 0xC002 ∧ t.winByte 0xC100 = 0x82 ∧ t.stepCycles = 16 := by decide

/-- `SRA L`, CB 2D; start: L=0x81, F=0x00. -/
theorem test_R291 :
    let t := after { s0 with l := 0x81, f := 0x00 } [0xCB, 0x2D]
    t.a = 0x01 ∧ t.f = 0x10 ∧ t.l = 0xC0 ∧ t.pc = 0xC002 ∧ t.stepCycles = 8 := by decide

/-- `SRA (HL)`, CB 2E; start: HL=0xC100, [0xC100]=0x01. -/
theorem test_R292 :
    let t := after (({ s0 with h := 0xC1, l := 0x00 } : State).setWin 0xC100 0x01) [0xCB, 0x2E]
    t.a = 0x01 ∧ t.f = 0x90 ∧ t.pc = 0xC002 ∧ t.winByte 0xC100 = 0x00 ∧ t.stepCycles = 16 := by decide

/-- `SWAP A`, CB 37; start: A=0xF1, F=0x10. -/
theorem test_R293 :
    let t := after { s0 with a := 0xF1, f := 0x10 } [0xCB, 0x37]
    t.a = 0x1F ∧ t.f = 0x00 ∧ t.pc = 0xC002 ∧ t.stepCycles = 8 := by decide

/-- `SWAP (HL)`, CB 36; start: HL=0xC100, [0xC100]=0x12. -/
theorem test_R294 :
    let t := after (({ s0 with h := 0xC1, l := 0x00 } : State).setWin 0xC100 0x12) [0xCB, 0x36]
    t.a = 0x01 ∧ t.f = 0x00 ∧ t.pc = 0xC002 ∧ t.winByte 0xC100 = 0x21 ∧ t.stepCycles = 16 := by decide

/-- `SRL A`, CB 3F; start: A=0x01, F=0x00. -/
theorem test_R295 :
    let t := after { s0 with a := 0x01, f := 0x00 } [0xCB, 0x3F]
    t.a = 0x00 ∧ t.f = 0x90 ∧ t.pc = 0xC002 ∧ t.stepCycles = 8 := by decide

/-- `SRL (HL)`, CB 3E; start: HL=0xC100, [0xC100]=0x80. -/
theorem test_R296 :
    let t := after (({ s0 with h := 0xC1, l := 0x00 } : State).setWin 0xC100 0x80) [0xCB, 0x3E]
    t.a = 0x01 ∧ t.f = 0x00 ∧ t.pc = 0xC002 ∧ t.winByte 0xC100 = 0x40 ∧ t.stepCycles = 16 := by decide

/-- `BIT 7,H`, CB 7C; start: H=0x80, F=0x10. -/
theorem test_R297 :
    let t := after { s0 with h := 0x80, f := 0x10 } [0xCB, 0x7C]
    t.a = 0x01 ∧ t.f = 0x30 ∧ t.pc = 0xC002 ∧ t.stepCycles = 8 := by decide

/-- `BIT 0,A`, CB 47; start: A=0xFE, F=0x40. -/
theorem test_R297_2 :
    let t := after { s0 with a := 0xFE, f := 0x40 } [0xCB, 0x47]
    t.a = 0xFE ∧ t.f = 0xA0 ∧ t.pc = 0xC002 ∧ t.stepCycles = 8 := by decide

/-- `BIT 3,(HL)`, CB 5E; start: HL=0xC100, [0xC100]=0x08, F=0x00. -/
theorem test_R298 :
    let t := after (({ s0 with h := 0xC1, l := 0x00, f := 0x00 } : State).setWin 0xC100 0x08) [0xCB, 0x5E]
    t.a = 0x01 ∧ t.f = 0x20 ∧ t.pc = 0xC002 ∧ t.stepCycles = 12 := by decide

/-- `RES 7,A`, CB BF; start: A=0xFF, F=0x00. -/
theorem test_R299 :
    let t := after { s0 with a := 0xFF, f := 0x00 } [0xCB, 0xBF]
    t.a = 0x7F ∧ t.f = 0x00 ∧ t.pc = 0xC002 ∧ t.stepCycles = 8 := by decide

/-- `RES 0,(HL)`, CB 86; start: HL=0xC100, [0xC100]=0x0F. -/
theorem test_R300 :
    let t := after (({ s0 with h := 0xC1, l := 0x00 } : State).setWin 0xC100 0x0F) [0xCB, 0x86]
    t.a = 0x01 ∧ t.f = 0xB0 ∧ t.pc = 0xC002 ∧ t.winByte 0xC100 = 0x0E ∧ t.stepCycles = 16 := by decide

/-- `SET 3,B`, CB D8; start: B=0x00, F=0x00. -/
theorem test_R301 :
    let t := after { s0 with b := 0x00, f := 0x00 } [0xCB, 0xD8]
    t.a = 0x01 ∧ t.f = 0x00 ∧ t.b = 0x08 ∧ t.pc = 0xC002 ∧ t.stepCycles = 8 := by decide

/-- `SET 7,(HL)`, CB FE; start: HL=0xC100, [0xC100]=0x00. -/
theorem test_R302 :
    let t := after (({ s0 with h := 0xC1, l := 0x00 } : State).setWin 0xC100 0x00) [0xCB, 0xFE]
    t.a = 0x01 ∧ t.f = 0xB0 ∧ t.pc = 0xC002 ∧ t.winByte 0xC100 = 0x80 ∧ t.stepCycles = 16 := by decide

/-- `SET 0,(HL)`, CB C6; start: HL=0x2000. -/
theorem test_R302_2 :
    let t := after { s0 with h := 0x20, l := 0x00 } [0xCB, 0xC6]
    t.a = 0x01 ∧ t.f = 0xB0 ∧ t.pc = 0xC002 ∧ t.stepCycles = 16 ∧ t.romBank = 1 := by decide

/-- `NOP`, 00; start: power-on. -/
theorem test_R310 :
    let t := after s0 [0x00]
    t.a = 0x01 ∧ t.f = 0xB0 ∧ t.pc = 0xC001 ∧ t.stepCycles = 4 := by decide

/-- `HALT`, 76; start: [0xFFFF]=0x04. -/
theorem test_R311 :
    let t := after (s0.setWin 0xFFFF 0x04) [0x76]
    t.a = 0x01 ∧ t.f = 0xB0 ∧ t.pc = 0xC001 ∧ t.halted = true ∧ t.stepCycles = 4 := by decide

/-- `STOP`, 10 D3; start: div_counter=0x4000. -/
theorem test_R312 :
    let t := after { s0 with divCounter := 0x4000 } [0x10, 0xD3]
    t.a = 0x01 ∧ t.f = 0xB0 ∧ t.pc = 0xC002 ∧ t.stepCycles = 4 := by decide

/-- `DI`, F3; start: ime=1. -/
theorem test_R313 :
    let t := after { s0 with ime := true } [0xF3]
    t.a = 0x01 ∧ t.f = 0xB0 ∧ t.pc = 0xC001 ∧ t.diPending = true ∧ t.stepCycles = 4 := by decide

/-- `EI`, FB; start: power-on. -/
theorem test_R314 :
    let t := after s0 [0xFB]
    t.a = 0x01 ∧ t.f = 0xB0 ∧ t.pc = 0xC001 ∧ t.eiPending = true ∧ t.stepCycles = 4 := by decide

/-- `illegal 0xD3`, D3; start: power-on. -/
theorem test_R315 :
    let t := after s0 [0xD3]
    t.a = 0x01 ∧ t.f = 0xB0 ∧ t.pc = 0xC001 ∧ t.fault = some ⟨0xC000, 0xD3⟩ := by decide

/-- `illegal 0xFD`, FD 00; start: ei_pending=1. -/
theorem test_R315_2 :
    let t := after { s0 with eiPending := true } [0xFD, 0x00]
    t.a = 0x01 ∧ t.f = 0xB0 ∧ t.pc = 0xC001 ∧ t.fault = some ⟨0xC000, 0xFD⟩ := by decide

/-! ### One iteration (`Iterate` of R360), from sections 2.7 to 2.9 -/

/-- Code at 0xC000 and pc there. -/
def at0 (s : State) (code : List Byte) : State := { codeAt s code with pc := 0xC000 }

/-- The state after one iteration; where there is none, the state before it. -/
def iterated (s : State) : State :=
  match step s with
  | .next t => t
  | _ => s

/-- IE = 0xFF, IF = 0x03: V-blank alone is serviced (§8 scenario, R351 to R353). -/
theorem test_poll_priority :
    let t := iterated { at0 (s0.setWin 0xFFFF 0xFF |>.setWin 0xFF0F 0x03) [0x00] with ime := true }
    t.pc = 0x0040 ∧ t.sp = 0xFFFC ∧ t.ime = false ∧ t.winByte 0xFF0F = 0x02 ∧ t.winByte 0xFFFC = 0x01 ∧
      t.winByte 0xFFFD = 0xC0 ∧ t.divCounter = 4 := by decide

/-- IE = 0x1E masks V-blank (R351). -/
theorem test_poll_masked :
    let t := iterated { at0 (s0.setWin 0xFFFF 0x1E |>.setWin 0xFF0F 0x03) [0x00] with ime := true }
    t.pc = 0x0048 ∧ t.winByte 0xFF0F = 0x01 := by decide

/-- A halted core with ime = 0 wakes and executes `INC B` in the same step (R361). -/
theorem test_halt_wake :
    let t := iterated { at0 (s0.setWin 0xFFFF 0x01 |>.setWin 0xFF0F 0x01) [0x04] with halted := true }
    t.halted = false ∧ t.b = 0x01 ∧ t.f = 0x10 ∧ t.pc = 0xC001 ∧ t.winByte 0xFF0F = 0x01 := by decide

/-- The EI delay's second step: `NOP` after `EI` (R314, R345). -/
theorem test_ei_resolves :
    let t := iterated { at0 s0 [0x00] with eiPending := true }
    t.ime = true ∧ t.eiPending = false := by decide

/-- TIMA = 0xFF overflows to TMA and is serviced in the same iteration (R337, R352). -/
theorem test_timer_overflow :
    let s := s0.setWin 0xFF07 0x05 |>.setWin 0xFF05 0xFF |>.setWin 0xFF06 0x80 |>.setWin 0xFFFF 0x04
    let t := iterated { at0 s [0x00] with ime := true, timerCounter := 4 }
    t.pc = 0x0050 ∧ t.winByte 0xFF05 = 0x80 ∧ t.winByte 0xFF0F = 0x00 ∧ t.timerCounter = 16 := by decide

/-- RENDER's answer is requested and the script moves on (R350, log 4). -/
theorem test_render_answer :
    let t := iterated { at0 s0 [0x00] with renderScript := [{ vblank := true, lcdStat := false }] }
    t.winByte 0xFF0F = 0x01 ∧ t.renderScript = [] := by decide

/-- MBC1 low bank select of 0b10010 with rom_bank = 0x21 (E6, R62). -/
theorem test_low_bank : (({ s0 with mbc := .mbc1, romBank := 0x21 } : State).memWrite 0x2000 0x12).romBank = 0x32 := by decide

/-- MBC1 RAM enable (E5, R61), and a store through the enabled RAM (R60). -/
theorem test_ram_enable :
    let t := ({ s0 with mbc := .mbc1 } : State).memWrite 0x0000 0x0A
    t.ramEnabled = true ∧ (t.memWrite 0xA000 0x0A).eramByte 0 = 0x0A ∧ s0.memRead 0xA000 = 0xFF := by decide

/-- The joypad read of an Up press with the directions selected, and its request (section 2.9). -/
theorem test_key_pressed :
    let t := (s0.setWin 0xFF00 0x20).keyPressed .up
    t.joyLatch = 0xFB ∧ t.winByte 0xFF0F = 0x10 ∧ t.memRead 0xFF00 = 0xEB := by decide

/-! ### Witnesses: for each statement with hypotheses, states and operands that meet all of them -/

theorem witness_PushPairs (p : Reg16Stk) :
    ∃ (s : State) (hi lo : Byte),
      match p with
      | .bc => hi = s.b ∧ lo = s.c
      | .de => hi = s.d ∧ lo = s.e
      | .hl => hi = s.h ∧ lo = s.l
      | .af => hi = s.a ∧ lo = s.f := by
  cases p <;> exact ⟨s0, _, _, rfl, rfl⟩

/-- For AddAndAdc, SubSbcAndCp, AndAccumulator and XorAndOr: each of the three operand forms. -/
theorem witness_accumulatorOperands :
    s0.aluOperandIs (.loc (.reg .e)) 0xD8 4 ∧ (s0.setWin 0xC100 0x34 |>.setHL 0xC100).aluOperandIs (.loc .mHL) 0x34 8 ∧
      s0.aluOperandIs (.imm 0xFF) 0xFF 8 :=
  ⟨.inl ⟨.e, rfl, rfl, rfl⟩, .inr (.inl ⟨rfl, rfl, rfl⟩), .inr (.inr ⟨rfl, rfl⟩)⟩

theorem witness_IncDecMemory : ∃ (v : Byte) (s : State), v = s.memRead s.hl ∧ v = 0xFF :=
  ⟨_, s0.setWin 0xC100 0xFF |>.setHL 0xC100, rfl, by decide⟩

theorem witness_UnrecognizedOpcodes : Instr.unrecognized .unrecognized_D3 = true ∧ Instr.unrecognized .unrecognized_FD = true :=
  ⟨rfl, rfl⟩

/-- Of one, two and three bytes. -/
theorem witness_StepRunsDecodedInstruction :
    ∀ x ∈ [(Instr.nop, at0 s0 [0x00]), (.swap_A, at0 s0 [0xCB, 0x37]), (.ld_BC_n16 0x1234, at0 s0 [0x01, 0x34, 0x12])],
      x.2.live ∧ x.2.halted = false ∧ x.1.wellFormed = true ∧ x.2.holdsAtPc x.1 := by
  unfold State.live State.holdsAtPc
  decide

theorem witness_EncodeOfDecode :
    decode [0x06, 0x5A, 0x00] = .ok (.ld_B_n8 0x5A, [0x00]) ∧ decode [0xCB] = .error (.truncated 0xCB) := ⟨rfl, rfl⟩

/-- A legal state with an MBC1 cartridge, external RAM and the timer in use. -/
def legal : State :=
  { at0 (s0.setWin 0xFF07 0x05) [0x00] with
    mbc := .mbc1, cart := [(0x0147, 0x01)], eram := [(0x7FFF, 0x55)], romBank := 0x7F, ramBank := 3, ramEnabled := true
    romBankingMode := false, timerCounter := 16, ime := true, eiPending := true }

theorem legal_inv : legal.Inv where
  flagNibble := rfl
  winForm := by decide
  eramForm := by decide
  cartForm := by decide
  controller := rfl
  romBankLegal := ⟨by decide, by decide⟩
  ramBankZero := by decide
  noControllerRam := by decide
  romModeFixed := by decide
  countdown := by decide
  onePending := by decide
  faultRecord := fun _ h => by cases h

/-- From a state without a fault there is a next state. -/
theorem step_next (s : State) (h : s.fault = none) : ∃ t, step s = .next t := by
  rcases step_cases s with ⟨r, hr, _⟩ | ⟨_, t, _, ht⟩
  · rw [h] at hr; cases hr
  · exact ⟨_, ht⟩

theorem witness_StepKeepsInvariant : legal.Inv ∧ ∃ t, step legal = .next t := ⟨legal_inv, step_next _ rfl⟩

/-- The empty image and the longest one. -/
theorem witness_ResetMeetsInvariant : ([] : List Byte).length ≤ 0x200000 ∧ (List.replicate 0x200000 (0 : Byte)).length ≤ 0x200000 :=
  ⟨Nat.zero_le _, List.length_replicate.le⟩

/-- `INC B` writes no C; `LD B,C` writes no flag. -/
theorem witness_FlagFrame :
    (∃ t, exec .inc_B s0 = .next t) ∧ (Instr.flagsWritten .inc_B).getLsbD 4 = false ∧
      (∃ t, exec .ld_B_C s0 = .next t) ∧ Instr.flagsWritten .ld_B_C = 0 :=
  ⟨exec_next _ _, rfl, exec_next _ _, rfl⟩

/-- A store to WIN and one to ERAM, each with a cell outside it. -/
theorem witness_MemoryFrame :
    (∃ t, exec (.ld_ma16_SP 0xE000) s0 = .next t) ∧
      (∀ a ∈ Instr.storeAddrs (.ld_ma16_SP 0xE000) s0, winCell a ≠ some 0xC002) ∧
      (∃ t, exec .ld_mHL_B (legal.setHL 0xA000) = .next t) ∧
      (∀ a ∈ Instr.storeAddrs .ld_mHL_B (legal.setHL 0xA000), (legal.setHL 0xA000).eramCell a ≠ some 0) := by
  refine ⟨exec_next _ _, ?_, exec_next _ _, ?_⟩
  · show ∀ a ∈ [(0xE000 : Word), 0xE001], winCell a ≠ some 0xC002
    simp [winCell]
  · show ∀ a ∈ [(0xA000 : Word)], (legal.setHL 0xA000).eramCell a ≠ some 0
    simp [State.eramCell, State.setHL, legal]

/-- The state whose push stores to 0xD001 and 0xD000. -/
abbrev pushing : State := { s0 with sp := 0xD002 }

/-- A push, and reads beside its bytes, of an alias of neither, and of the cartridge. -/
theorem witness_ReadFrame :
    (∃ t, exec .push_BC pushing = .next t) ∧ (∀ a ∈ Instr.storeAddrs .push_BC pushing, 0x8000 ≤ a.toNat) ∧
      ∀ b ∈ [0xCFFF, 0xD002, 0xF002, (0x0000 : Word)], ∀ a ∈ Instr.storeAddrs .push_BC pushing, echoBase a ≠ echoBase b := by
  have e : Instr.storeAddrs .push_BC pushing = [0xD001, 0xD000] := rfl
  rw [e]
  refine ⟨exec_next _ _, by simp, by simp [echoBase]⟩

/-- A store to 0xFF05 by an instruction that writes none of the fields named. -/
theorem witness_StateFrame :
    (∃ t, exec (.ldh_ma8_A 0x05) s0 = .next t) ∧ Instr.writesSP (.ldh_ma8_A 0x05) = false ∧
      Instr.transfersControl (.ldh_ma8_A 0x05) = false ∧ Instr.unrecognized (.ldh_ma8_A 0x05) = false ∧
      Instr.ldh_ma8_A 0x05 ≠ .reti ∧ Instr.ldh_ma8_A 0x05 ≠ .ei ∧ Instr.ldh_ma8_A 0x05 ≠ .di ∧
      Instr.ldh_ma8_A 0x05 ≠ .halt ∧ Instr.storeAddrs (.ldh_ma8_A 0x05) s0 = [0xFF05] :=
  ⟨exec_next _ _, rfl, rfl, rfl, nofun, nofun, nofun, nofun, rfl⟩

/-- In work RAM, and at the low end of enabled external RAM. -/
theorem witness_InverseOperations :
    (∃ s t u : State, s.readsBack (s.sp - 1) ∧ s.readsBack (s.sp - 2) ∧ exec (.push .bc) s = .next t ∧
      exec (.pop .af) t = .next u) ∧
    (∃ s t u : State, s.readsBack (s.sp - 1) ∧ s.readsBack (s.sp - 2) ∧ exec (.push .af) s = .next t ∧
      exec (.pop .de) t = .next u) ∧
    (∃ t u, exec (.add_A_n8 0xFF) s0 = .next t ∧ exec (.sub_A_n8 0xFF) t = .next u) ∧
    (∃ t u, exec .rlca s0 = .next t ∧ exec .rrca t = .next u) ∧
    (∃ t u, exec (.rot .rlc (.reg .d)) s0 = .next t ∧ exec (.rot .rrc (.reg .d)) t = .next u) ∧
    (∃ t u, exec (.rot .swap (.reg .a)) s0 = .next t ∧ exec (.rot .swap (.reg .a)) t = .next u) := by
  have two : ∀ (i j : Instr) (s : State), ∃ t u, exec i s = .next t ∧ exec j t = .next u := fun i j s => by
    obtain ⟨t, ht⟩ := exec_next i s
    obtain ⟨u, hu⟩ := exec_next j t
    exact ⟨t, u, ht, hu⟩
  obtain ⟨t, u, h1, h2⟩ := two (.push .bc) (.pop .af) { s0 with sp := 0xE000 }
  obtain ⟨v, w, h3, h4⟩ := two (.push .af) (.pop .de) { legal with sp := 0xA002 }
  exact ⟨⟨_, t, u, .inl (by decide), .inl (by decide), h1, h2⟩, ⟨_, v, w, .inr (by decide), .inr (by decide), h3, h4⟩,
    two _ _ _, two _ _ _, two _ _ _, two _ _ _⟩

/-- Both ends of the region; and a window that differs in its own bytes only. -/
theorem witness_EchoRegion :
    (∀ e ∈ [(0xE000 : Word), 0xFDFF], 0xE000 ≤ e.toNat ∧ e.toNat ≤ 0xFDFF) ∧
      ∀ n, n < 0xE000 ∨ 0xFDFF < n → Memory.read .win [(0xE000, 0x55), (0xFDFF, 0x55)] n = Memory.read .win s0.win n := by
  refine ⟨by simp, fun n h => ?_⟩
  simp only [Memory.read]
  rw [if_neg (by omega), if_neg (by omega)]
  rfl

/-- A window that differs in bytes behind ROM, external RAM, the echo and DIV. -/
theorem witness_WindowShadow :
    (∃ t, step legal = .next t) ∧ hiddenCell 0x0000 ∧ hiddenCell 0x7FFF ∧ hiddenCell 0xA000 ∧ hiddenCell 0xBFFF ∧
      hiddenCell 0xE000 ∧ hiddenCell 0xFDFF ∧ hiddenCell 0xFEA0 ∧ hiddenCell 0xFEFE ∧ hiddenCell 0xFF04 ∧
      ∀ n, ¬hiddenCell n ∨ (0xFEA0 ≤ n ∧ n < 0xFEFF) →
        Memory.read .win [(0x0000, 0x55), (0xBFFF, 0x55), (0xFF04, 0x55)] n = Memory.read .win s0.win n := by
  refine ⟨step_next _ rfl, by decide, by decide, by decide, by decide, by decide, by decide, by decide, by decide, by decide,
    fun n h => ?_⟩
  unfold hiddenCell at h
  simp only [Memory.read]
  rw [if_neg (by omega), if_neg (by omega), if_neg (by omega)]
  rfl

/-- Both ends of each range, external RAM enabled and disabled, and a legal state without a controller. -/
theorem witness_MappedReads :
    (∀ a ∈ [(0x0000 : Word), 0x3FFF], a.toNat ≤ 0x3FFF) ∧
      (∀ a ∈ [(0x4000 : Word), 0x7FFF], 0x4000 ≤ a.toNat ∧ a.toNat ≤ 0x7FFF) ∧
      (∀ a ∈ [(0xA000 : Word), 0xBFFF], 0xA000 ≤ a.toNat ∧ a.toNat ≤ 0xBFFF) ∧ legal.Inv ∧ legal.ramEnabled = true ∧
      s0.ramEnabled = false ∧ ∃ s : State, s.Inv ∧ s.mbc = .noController := by
  refine ⟨by simp, by simp, by simp, legal_inv, rfl, rfl, { s0 with pc := 0xC000 }, ?_, rfl⟩
  exact ⟨rfl, by decide, by decide, by decide, rfl, rfl, by decide, by decide, by decide, by decide, by decide,
    fun _ h => by cases h⟩

theorem witness_LowBankSelect : ∀ a ∈ [(0x2000 : Word), 0x3FFF], 0x2000 ≤ a.toNat ∧ a.toNat ≤ 0x3FFF := by simp

theorem witness_BankingRegisters :
    (∀ a ∈ [(0x0000 : Word), 0x0010, 0x1FFF], a.toNat ≤ 0x1FFF) ∧
      (∀ a ∈ [(0x4000 : Word), 0x5FFF], 0x4000 ≤ a.toNat ∧ a.toNat ≤ 0x5FFF) ∧
      ∀ a ∈ [(0x6000 : Word), 0x7FFF], 0x6000 ≤ a.toNat ∧ a.toNat ≤ 0x7FFF := by simp

/-- Both ends of every plain range; what stands beside them is not plain. -/
theorem witness_IoAndPlainStorage :
    (∀ a ∈ [(0x8000 : Word), 0x9FFF, 0xC000, 0xDFFF, 0xE000, 0xFDFF, 0xFE00, 0xFE9F, 0xFEFF, 0xFF01, 0xFF03, 0xFF05, 0xFFFF],
        plainAddr a) ∧
      (∀ a ∈ [(0x7FFF : Word), 0xA000, 0xBFFF, 0xFEA0, 0xFEFE, 0xFF00, 0xFF04], ¬plainAddr a) ∧ plainAddr 0xFF07 ∧
      (∀ a ∈ [(0xFEA0 : Word), 0xFEFE], 0xFEA0 ≤ a.toNat ∧ a.toNat ≤ 0xFEFE) ∧ (0 < 8 ∧ 7 < 8) := by simp [plainAddr]

/-- The four cases of TimerTick, each at its edge. -/
theorem witness_TimerTick :
    (s0.winByte 0xFF07).getLsbD 2 = false ∧
      (let s := s0.setWin 0xFF07 0x05
       (s.winByte 0xFF07).getLsbD 2 = true ∧ ({ s with timerCounter := 5 } : State).timerCounter - (4 : Nat) > 0 ∧
         ({ s with timerCounter := 4 } : State).timerCounter - (4 : Nat) ≤ 0 ∧ s.winByte 0xFF05 ≠ 0xFF ∧
         (s.setWin 0xFF05 0xFF).winByte 0xFF05 = 0xFF ∧ ((s.setWin 0xFF05 0xFF).winByte 0xFF07).getLsbD 2 = true) := by decide

theorem witness_PollServicesLowest :
    (let s : State := { s0.setWin 0xFFFF 0xFF |>.setWin 0xFF0F 0x10 with ime := true }
     s.ime = true ∧ s.winByte 0xFF0F &&& s.winByte 0xFFFF &&& 0x1F ≠ 0) ∧ s0.ime = false ∧
      (let s : State := { s0.setWin 0xFFFF 0xFF |>.setWin 0xFF0F 0xE0 with ime := true }
       s.winByte 0xFF0F &&& s.winByte 0xFFFF &&& 0x1F = 0) := by decide

theorem witness_TakingAnInterrupt :
    IrqSource.mask .vblank = 1#8 <<< 0 ∧ IrqSource.mask .lcdStat = 1#8 <<< 1 ∧ IrqSource.mask .timer = 1#8 <<< 2 ∧
      IrqSource.mask .serial = 1#8 <<< 3 ∧ IrqSource.mask .joypad = 1#8 <<< 4 := by decide

theorem witness_EnableInterruptDelay :
    (let s := at0 s0 [0xFB]
     s.live ∧ s.halted = false ∧ s.diPending = false ∧ s.memRead s.pc = 0xFB ∧ s.ime = false) ∧
      ∀ b ∈ [0x00, 0xF3, (0xD9 : Byte)],
        (let s : State := { at0 s0 [b] with eiPending := true }
         s.live ∧ s.halted = false ∧ s.eiPending = true ∧ s.memRead s.pc ≠ 0xFB ∧
           (decodeBytes (s.memRead s.pc) 0 0).unrecognized = false) := by
  unfold State.live
  decide

theorem witness_DisableInterruptDelay :
    (let s := at0 { s0 with ime := true } [0xF3]
     s.live ∧ s.halted = false ∧ s.eiPending = false ∧ s.memRead s.pc = 0xF3) ∧
      ∀ b ∈ [0x00, 0xFB, (0xD9 : Byte)],
        (let s : State := { at0 s0 [b] with diPending := true }
         s.live ∧ s.halted = false ∧ s.diPending = true ∧ s.eiPending = false ∧ s.memRead s.pc ≠ 0xF3 ∧
           (decodeBytes (s.memRead s.pc) 0 0).unrecognized = false) := by
  unfold State.live
  decide

theorem witness_HaltedStep :
    (let s : State := { s0 with halted := true }
     s.live ∧ s.halted = true ∧ s.winByte 0xFF0F &&& s.winByte 0xFFFF &&& 0x1F = 0 ∧ s.ime = false) ∧
      (let s : State := { s0.setWin 0xFFFF 0x01 |>.setWin 0xFF0F 0x01 with halted := true }
       s.live ∧ s.halted = true ∧ s.winByte 0xFF0F &&& s.winByte 0xFFFF &&& 0x1F ≠ 0) := by
  unfold State.live
  decide

theorem witness_FaultEndsTheRun :
    (∀ b ∈ [0xD3, (0xFD : Byte)],
      (let s := at0 s0 [b]
       s.live ∧ s.halted = false ∧ (decodeBytes (s.memRead s.pc) 0 0).unrecognized = true)) ∧
      ({ s0 with fault := some { pc := 0xC000, byte := 0xDD } } : State).fault = some { pc := 0xC000, byte := 0xDD } := by
  unfold State.live
  decide

theorem witness_PowerOnWithImage :
    0x200000 < (List.replicate 0x200001 (0 : Byte)).length ∧ (List.replicate 0x200000 (0 : Byte)).length ≤ 0x200000 ∧
      (0xFF11 : Word).toNat ∈ [0xFF10, 0xFF11] ∧
      (0xFF13 : Word).toNat ∉ [0xFF10, 0xFF11, 0xFF12, 0xFF14, 0xFF16, 0xFF19, 0xFF1A, 0xFF1B, 0xFF1C, 0xFF1E, 0xFF20, 0xFF23,
        0xFF24, 0xFF25, 0xFF26, 0xFF40, 0xFF47, 0xFF48, 0xFF49] := by
  simp only [List.length_replicate]
  decide

/-- The keys at both ends of each class. -/
theorem witness_KeyPorts :
    let keys := [Key.right, .left, .up, .down, .a, .b, .select, .start]
    keys[0]? = some .right ∧ keys[3]? = some .down ∧ keys[4]? = some .a ∧ keys[7]? = some .start := by decide

theorem witness_RenderScriptsCoverRender :
    ∃ t h', runUnder (fun h _ _ => ({ vblank := true, lcdStat := false }, h + 1)) 1 (at0 s0 [0x00], 0) = .next (t, h') :=
  ⟨_, _, rfl⟩

end Sys2Proof.Tests
end

/-! ## PROOFS: Register pairs and register operands: what a set operand reads as, and that setting it back undoes it. -/

namespace Sys2Proof.Machine

@[simp] theorem State.reg8_setReg8 (s : State) (r q : Reg8) (x : Byte) :
    (s.setReg8 r x).reg8 q = if q = r then x else s.reg8 q := by
  split
  · next h => rw [h, State.reg8_setReg8_same]
  · next h => exact s.reg8_setReg8_other r q x h

theorem State.setReg8_restore (s : State) (r : Reg8) (x : Byte) : (s.setReg8 r x).setReg8 r (s.reg8 r) = s := by
  cases r <;> rfl

@[simp] theorem State.reg16_setReg16_same (s : State) (p : Reg16) (v : Word) : (s.setReg16 p v).reg16 p = v := by
  cases p with
  | bc | de | hl => exact wordOf_bytes v
  | sp => rfl

theorem State.setReg16_restore (s : State) (p : Reg16) (v : Word) : (s.setReg16 p v).setReg16 p (s.reg16 p) = s := by
  cases p with
  | bc => simp [State.setReg16, State.reg16, State.setBC, State.bc]
  | de => simp [State.setReg16, State.reg16, State.setDE, State.de]
  | hl => simp [State.setReg16, State.reg16, State.setHL, State.hl]
  | sp => rfl

/-- Settles O30: each pair is the sum of its halves, and the operand tables read what was set and restore. -/
theorem registerOperands : Obligations.RegisterOperands := by
  intro r q p x v s
  exact ⟨wordOf_toNat s.a s.f, wordOf_toNat s.b s.c, wordOf_toNat s.d s.e, wordOf_toNat s.h s.l, rfl, rfl, rfl, rfl, rfl, rfl,
    s.reg8_setReg8 r q x, s.setReg8_restore r x, s.reg16_setReg16_same p v, s.setReg16_restore p v⟩

end Sys2Proof.Machine

/-! ## PROOFS: What an instruction leaves alone outside the bus: SP, pc, `ime`, the pending flags, `halted` and the fault. -/

namespace Sys2Proof.Machine

/-! ### The CPU's control fields -/

/-- The CPU's fields beside the 8-bit registers and the cycle count. -/
structure Control where
  sp : Word
  pc : Word
  ime : Bool
  eiPending : Bool
  diPending : Bool
  halted : Bool
  fault : Option FaultRecord

/-- The control fields of a state. -/
def State.control (s : State) : Control :=
  { sp := s.sp, pc := s.pc, ime := s.ime, eiPending := s.eiPending, diPending := s.diPending, halted := s.halted, fault := s.fault }

@[simp] theorem State.setFlags_control (s : State) (fl : Flags) : (s.setFlags fl).control = s.control := rfl

@[simp] theorem State.setHL_control (s : State) (v : Word) : (s.setHL v).control = s.control := rfl

@[simp] theorem State.setReg8_control (s : State) (r : Reg8) (v : Byte) : (s.setReg8 r v).control = s.control := by
  cases r <;> rfl

@[simp] theorem State.setReg16Stk_control (s : State) (p : Reg16Stk) (v : Word) : (s.setReg16Stk p v).control = s.control := by
  cases p <;> rfl

@[simp] theorem State.memWrite_control (s : State) (a : Word) (v : Byte) : (s.memWrite a v).control = s.control := by
  simp [State.control]

@[simp] theorem State.writeLoc_control (s : State) (x : Loc8) (v : Byte) : (s.writeLoc x v).control = s.control := by
  cases x with
  | reg r => exact s.setReg8_control r v
  | mHL => exact s.memWrite_control s.hl v

/-- A push moves SP and no other control field. -/
@[simp] theorem State.push16_control (s : State) (v : Word) : (s.push16 v).control = { s.control with sp := s.sp - 2 } := by
  rw [State.push16_eq]; simp [State.control]

/-- A call moves SP and pc and no other control field. -/
theorem State.called_control (s : State) (v a : Word) :
    ({ s.push16 v with pc := a } : State).control = { s.control with sp := s.sp - 2, pc := a } := by
  change { (s.push16 v).control with pc := a } = _
  rw [State.push16_control]

theorem done_control {c : Nat} {u t : State} (h : done c u = .next t) : t.control = u.control := by cases h; rfl

/-! ### The classes of instructions, by group -/

theorem writesSP_push (p : Reg16Stk) : (Instr.push p).writesSP = true := by cases p <;> rfl

theorem writesSP_pop (p : Reg16Stk) : (Instr.pop p).writesSP = true := by cases p <;> rfl

theorem writesSP_callCond (cc : Cond) (a : Word) : (Instr.callCond cc a).writesSP = true := by cases cc <;> rfl

theorem writesSP_retCond (cc : Cond) : (Instr.retCond cc).writesSP = true := by cases cc <;> rfl

theorem writesSP_rst (y : Field3) : (Instr.rst y).writesSP = true := by cases y <;> rfl

theorem transfersControl_jpCond (cc : Cond) (a : Word) : (Instr.jpCond cc a).transfersControl = true := by cases cc <;> rfl

theorem transfersControl_jrCond (cc : Cond) (e : Byte) : (Instr.jrCond cc e).transfersControl = true := by cases cc <;> rfl

theorem transfersControl_callCond (cc : Cond) (a : Word) : (Instr.callCond cc a).transfersControl = true := by cases cc <;> rfl

theorem transfersControl_retCond (cc : Cond) : (Instr.retCond cc).transfersControl = true := by cases cc <;> rfl

theorem transfersControl_rst (y : Field3) : (Instr.rst y).transfersControl = true := by cases y <;> rfl

/-! ### What each instruction may change -/

/-- From control fields c to d an instruction changed only what its class may change. -/
structure ControlFrame (i : Instr) (c d : Control) : Prop where
  sp : i.writesSP = false → d.sp = c.sp
  pc : i.transfersControl = false → d.pc = c.pc
  ime : i ≠ .reti → d.ime = c.ime
  eiPending : i ≠ .ei → d.eiPending = c.eiPending
  diPending : i ≠ .di → d.diPending = c.diPending
  halted : i ≠ .halt → d.halted = c.halted
  fault : i.unrecognized = false → d.fault = c.fault

theorem ControlFrame.quiet {i : Instr} {c d : Control} (h : d = c) : ControlFrame i c d := by
  subst h; constructor <;> intro _ <;> rfl

theorem ControlFrame.movesSP {i : Instr} {c d : Control} (hi : i.writesSP = true) (x : Word) (h : d = { c with sp := x }) :
    ControlFrame i c d := by
  subst h; constructor <;> intro hj
  case sp => rw [hi] at hj; cases hj
  all_goals rfl

theorem ControlFrame.movesPc {i : Instr} {c d : Control} (hi : i.transfersControl = true) (x : Word)
    (h : d = { c with pc := x }) : ControlFrame i c d := by
  subst h; constructor <;> intro hj
  case pc => rw [hi] at hj; cases hj
  all_goals rfl

theorem ControlFrame.movesBoth {i : Instr} {c d : Control} (hi : i.writesSP = true) (hj : i.transfersControl = true) (x y : Word)
    (h : d = { c with sp := x, pc := y }) : ControlFrame i c d := by
  subst h; constructor <;> intro hk
  case sp => rw [hi] at hk; cases hk
  case pc => rw [hj] at hk; cases hk
  all_goals rfl

theorem ControlFrame.faults {i : Instr} {c d : Control} (hi : i.unrecognized = true) (r : Option FaultRecord)
    (h : d = { c with fault := r }) : ControlFrame i c d := by
  subst h; constructor <;> intro hj
  case fault => rw [hi] at hj; cases hj
  all_goals rfl

theorem exec_controlFrame (i : Instr) (s t : State) (h : exec i s = .next t) : ControlFrame i s.control t.control := by
  induction i using Instr.byGroup with
  | ldReg x y => rw [exec_ldReg] at h; rw [done_control h]; exact .quiet (by simp)
  | ldRegMem x => rw [exec_ldRegMem] at h; rw [done_control h]; exact .quiet (by simp)
  | ldMemReg x => rw [exec_ldMemReg] at h; rw [done_control h]; exact .quiet (by simp)
  | ldRegImm x n => rw [exec_ldRegImm] at h; rw [done_control h]; exact .quiet (by simp)
  | ldR16 p n =>
    rw [exec_ldR16] at h; rw [done_control h]
    cases p with
    | sp => exact .movesSP rfl n rfl
    | bc | de | hl => exact .quiet rfl
  | push p => rw [exec_push] at h; rw [done_control h]; exact .movesSP (writesSP_push p) _ (s.push16_control _)
  | pop p => rw [exec_pop] at h; rw [done_control h]; exact .movesSP (writesSP_pop p) (s.sp + 2) (s.popped.setReg16Stk_control p s.popValue)
  | alu op src => rw [exec_alu] at h; rw [done_control h]; exact .quiet (by cases op <;> rfl)
  | inc8 x => rw [exec_inc8] at h; rw [done_control h]; exact .quiet (by simp)
  | dec8 x => rw [exec_dec8] at h; rw [done_control h]; exact .quiet (by simp)
  | addHL p => rw [exec_addHL] at h; rw [done_control h]; exact .quiet (by simp)
  | inc16 p =>
    rw [exec_inc16] at h; rw [done_control h]
    cases p with
    | sp => exact .movesSP rfl (s.sp + 1) rfl
    | bc | de | hl => exact .quiet rfl
  | dec16 p =>
    rw [exec_dec16] at h; rw [done_control h]
    cases p with
    | sp => exact .movesSP rfl (s.sp - 1) rfl
    | bc | de | hl => exact .quiet rfl
  | jpCond cc a =>
    rw [exec_jpCond] at h; unfold jumpIf at h
    split at h <;> rw [done_control h]
    · exact .movesPc (transfersControl_jpCond cc a) a rfl
    · exact .quiet rfl
  | jrCond cc e =>
    rw [exec_jrCond] at h; unfold jumpRelIf at h
    split at h <;> rw [done_control h]
    · exact .movesPc (transfersControl_jrCond cc e) (s.pc + sext8 e) rfl
    · exact .quiet rfl
  | callCond cc a =>
    rw [exec_callCond] at h; unfold callIf at h
    split at h <;> rw [done_control h]
    · exact .movesBoth (writesSP_callCond cc a) (transfersControl_callCond cc a) _ _ (s.called_control _ _)
    · exact .quiet rfl
  | retCond cc =>
    rw [exec_retCond] at h; unfold returnIf at h
    split at h <;> rw [done_control h]
    · exact .movesBoth (writesSP_retCond cc) (transfersControl_retCond cc) (s.sp + 2) s.popValue rfl
    · exact .quiet rfl
  | rst y =>
    rw [exec_rst] at h; rw [done_control h]
    exact .movesBoth (writesSP_rst y) (transfersControl_rst y) _ _ (s.called_control _ _)
  | rot op x => rw [exec_rot] at h; rw [done_control h]; exact .quiet (by simp)
  | bit n x => rw [exec_bit] at h; rw [done_control h]; exact .quiet (by simp)
  | res n x => rw [exec_res] at h; rw [done_control h]; exact .quiet (by simp)
  | set n x => rw [exec_set] at h; rw [done_control h]; exact .quiet (by simp)
  | ld_ma16_SP | ld_mHL_n8 | ldh_ma8_A | ld_ma16_A | ld_mBC_A | ld_mDE_A | ld_mHLinc_A | ld_mHLdec_A | ld_mC_A =>
    rw [done_control h]; exact .quiet (by simp)
  | jr_e8 | jp_a16 | jp_HL => rw [done_control h]; exact .movesPc rfl _ rfl
  | call_a16 a => rw [done_control h]; exact .movesBoth rfl rfl _ _ (s.called_control _ _)
  | ret => rw [done_control h]; exact .movesBoth rfl rfl (s.sp + 2) s.popValue rfl
  | add_SP_e8 | ld_SP_HL => rw [done_control h]; exact .movesSP rfl _ rfl
  | reti =>
    cases h; constructor <;> intro hi
    case sp | pc => cases hi
    case ime => exact absurd rfl hi
    all_goals rfl
  | ei =>
    cases h; constructor <;> intro hi
    case eiPending => exact absurd rfl hi
    all_goals rfl
  | di =>
    cases h; constructor <;> intro hi
    case diPending => exact absurd rfl hi
    all_goals rfl
  | halt =>
    cases h; constructor <;> intro hi
    case halted => exact absurd rfl hi
    all_goals rfl
  | unrecognized_D3 | unrecognized_DB | unrecognized_DD | unrecognized_E3 | unrecognized_E4 | unrecognized_EB | unrecognized_EC
  | unrecognized_ED | unrecognized_F4 | unrecognized_FC | unrecognized_FD =>
    cases h; exact .faults rfl _ rfl
  | _ => rw [done_control h]; exact .quiet rfl

end Sys2Proof.Machine

/-! ## PROOFS: What an instruction's bus writes keep, and the frame of the whole state. -/

namespace Sys2Proof.Machine

/-! ### What the bus writes keep -/

/-- What every bus write at one of the addresses keeps, the bus writes together keep. -/
theorem State.storeAll_keeps {P : State → Prop} (ws : List (Word × Byte)) (s : State) (hs : P s)
    (step : ∀ u, ∀ a ∈ ws.map Prod.fst, ∀ v, P u → P (u.memWrite a v)) : P (s.storeAll ws) := by
  induction ws generalizing s with
  | nil => exact hs
  | cons w ws ih =>
    exact ih (s.memWrite w.1 w.2) (step s w.1 (by simp) w.2 hs) fun u a ha => step u a (List.mem_cons_of_mem _ ha)

/-- A property beside the CPU's own fields holds after an instruction when every bus write at an address the instruction stores
to keeps it. -/
theorem exec_keeps {P : State → Prop} {i : Instr} {s t : State} (h : exec i s = .next t) (hs : P s)
    (step : ∀ u, ∀ a ∈ i.storeAddrs s, ∀ v, P u → P (u.memWrite a v)) (cpu : ∀ u, P u → P (u.withCpu t)) : P t := by
  obtain ⟨ws, hws, ht⟩ := exec_stores i s t h
  rw [← hws] at step
  rw [ht]
  exact cpu _ (State.storeAll_keeps ws s hs step)

theorem exec_divCounter (i : Instr) (s t : State) (h : exec i s = .next t) (ha : 0xFF04 ∉ i.storeAddrs s) :
    t.divCounter = s.divCounter := by
  refine exec_keeps (P := fun u => u.divCounter = s.divCounter) h rfl (fun u a hm v hu => ?_) fun u hu => hu
  have hne : a ≠ 0xFF04 := fun e => ha (e ▸ hm)
  rw [State.memWrite_divCounter, if_neg hne, hu]

theorem exec_timerCounter (i : Instr) (s t : State) (h : exec i s = .next t) (ha : 0xFF07 ∉ i.storeAddrs s) :
    t.timerCounter = s.timerCounter := by
  refine exec_keeps (P := fun u => u.timerCounter = s.timerCounter) h rfl (fun u a hm v hu => ?_) fun u hu => hu
  have hne : a ≠ 0xFF07 := fun e => ha (e ▸ hm)
  rw [State.memWrite_timerCounter, if_neg (fun e => hne e.1), hu]

theorem exec_banking (i : Instr) (s t : State) (h : exec i s = .next t) (ha : ∀ a ∈ i.storeAddrs s, 0x8000 ≤ a.toNat) :
    t.romBank = s.romBank ∧ t.ramBank = s.ramBank ∧ t.ramEnabled = s.ramEnabled ∧ t.romBankingMode = s.romBankingMode := by
  refine exec_keeps (P := fun u => u.romBank = s.romBank ∧ u.ramBank = s.ramBank ∧ u.ramEnabled = s.ramEnabled ∧
    u.romBankingMode = s.romBankingMode) h ⟨rfl, rfl, rfl, rfl⟩ (fun u a hm v hu => ?_) fun u hu => hu
  obtain ⟨hb, hk, he, hr⟩ := u.memWrite_above_rom a v (ha a hm)
  rw [hb, hk, he, hr]
  exact hu

/-- No instruction writes the key latch, the controller, the frame's cycle count or RENDER's script. -/
theorem exec_hostFields (i : Instr) (s t : State) (h : exec i s = .next t) :
    t.joyLatch = s.joyLatch ∧ t.mbc = s.mbc ∧ t.frameCycles = s.frameCycles ∧ t.renderScript = s.renderScript := by
  refine exec_keeps (P := fun u => u.joyLatch = s.joyLatch ∧ u.mbc = s.mbc ∧ u.frameCycles = s.frameCycles ∧
    u.renderScript = s.renderScript) h ⟨rfl, rfl, rfl, rfl⟩ (fun u a _ v hu => ?_) fun u hu => hu
  simpa using hu

/-- Settles O40: the control fields by the instruction's class, the rest by its bus writes. -/
theorem stateFrame : Obligations.StateFrame := by
  intro i s t h
  obtain ⟨hsp, hpc, hime, hei, hdi, hhalted, hfault⟩ := exec_controlFrame i s t h
  exact ⟨hsp, hpc, hime, hei, hdi, hhalted, hfault, exec_divCounter i s t h, exec_timerCounter i s t h, exec_banking i s t h,
    exec_hostFields i s t h⟩

end Sys2Proof.Machine

/-! ## PROOFS: The flag byte after an instruction: the flags its rule does not name are kept, a rule that names none keeps F whole,
and F's lower nibble stays 0. -/

namespace Sys2Proof.Machine

/-! ### Flag bytes -/

/-- The four flag bits of a written flag byte (R24). -/
theorem Flags.getLsbD_toByte (fl : Flags) :
    fl.toByte.getLsbD 7 = fl.z ∧ fl.toByte.getLsbD 6 = fl.n ∧ fl.toByte.getLsbD 5 = fl.h ∧ fl.toByte.getLsbD 4 = fl.c := by
  obtain ⟨z, n, h, c⟩ := fl
  revert z n h c; decide

/-- An instruction that writes the flags of mask m takes the flag byte f to f'. -/
structure FlagEffect (m f f' : Byte) : Prop where
  kept : ∀ k, 4 ≤ k → k < 8 → m.getLsbD k = false → f'.getLsbD k = f.getLsbD k
  keptWhole : m = 0 → f' = f
  nibble : f &&& 0x0F = 0 → f' &&& 0x0F = 0

theorem FlagEffect.unchanged (m f : Byte) : FlagEffect m f f := ⟨fun _ _ _ _ => rfl, fun _ => rfl, id⟩

/-- All four flags written. -/
theorem FlagEffect.all (f f' : Byte) (h : f' &&& 0x0F = 0) : FlagEffect 0xF0 f f' where
  kept k h4 h8 hk := by interval_cases k <;> cases hk
  keptWhole h0 := by cases h0
  nibble _ := h

/-- Flags written through `setFlags`, where each flag outside the mask is passed its old value. -/
theorem FlagEffect.some {m f : Byte} {fl : Flags} (hm : m ≠ 0) (hz : m.getLsbD 7 = false → fl.z = (Flags.ofByte f).z)
    (hn : m.getLsbD 6 = false → fl.n = (Flags.ofByte f).n) (hh : m.getLsbD 5 = false → fl.h = (Flags.ofByte f).h)
    (hc : m.getLsbD 4 = false → fl.c = (Flags.ofByte f).c) : FlagEffect m f fl.toByte where
  kept k h4 h8 hk := by
    obtain ⟨ez, en, eh, ec⟩ := fl.getLsbD_toByte
    interval_cases k
    · exact ec.trans (hc hk)
    · exact eh.trans (hh hk)
    · exact en.trans (hn hk)
    · exact ez.trans (hz hk)
  keptWhole h0 := absurd h0 hm
  nibble _ := fl.toByte_nibble

theorem done_f {c : Nat} {u t : State} (h : done c u = .next t) : t.f = u.f := by cases h; rfl

@[simp] theorem State.writeLoc_f (s : State) (x : Loc8) (v : Byte) : (s.writeLoc x v).f = s.f := by
  cases x with
  | reg r => exact s.setReg8_f r v
  | mHL => exact s.memWrite_f s.hl v

/-- A byte with its lower nibble masked off. -/
theorem and_F0_nibble (v : Byte) : (v &&& 0xF0) &&& 0x0F = 0 := by rw [BitVec.and_assoc]; exact BitVec.and_zero

/-! ### The flags each group's rule names -/

theorem flagsWritten_alu (op : AluOp) (src : AluSrc) : (Instr.alu op src).flagsWritten = 0xF0 := by
  rcases src with (⟨⟨⟩⟩ | _) | _ <;> cases op <;> rfl

theorem flagsWritten_inc8 (x : Loc8) : (Instr.inc8 x).flagsWritten = 0xE0 := by rcases x with ⟨⟨⟩⟩ | _ <;> rfl

theorem flagsWritten_dec8 (x : Loc8) : (Instr.dec8 x).flagsWritten = 0xE0 := by rcases x with ⟨⟨⟩⟩ | _ <;> rfl

theorem flagsWritten_addHL (p : Reg16) : (Instr.addHL p).flagsWritten = 0x70 := by cases p <;> rfl

theorem flagsWritten_rot (op : RotOp) (x : Loc8) : (Instr.rot op x).flagsWritten = 0xF0 := by
  rcases x with ⟨⟨⟩⟩ | _ <;> cases op <;> rfl

theorem flagsWritten_bit (n : Field3) (x : Loc8) : (Instr.bit n x).flagsWritten = 0xE0 := by
  rcases x with ⟨⟨⟩⟩ | _ <;> cases n <;> rfl

/-! ### Every instruction -/

theorem exec_flagEffect (i : Instr) (s t : State) (h : exec i s = .next t) : FlagEffect i.flagsWritten s.f t.f := by
  have all_flags : ∀ fl : Flags, FlagEffect 0xF0 s.f fl.toByte := fun fl => .all _ _ fl.toByte_nibble
  have same : t.f = s.f → FlagEffect i.flagsWritten s.f t.f := fun e => e ▸ .unchanged _ _
  induction i using Instr.byGroup with
  | ldReg x y => rw [exec_ldReg] at h; exact same ((done_f h).trans (by simp))
  | ldRegMem x => rw [exec_ldRegMem] at h; exact same ((done_f h).trans (by simp))
  | ldMemReg x => rw [exec_ldMemReg] at h; exact same ((done_f h).trans (by simp))
  | ldRegImm x n => rw [exec_ldRegImm] at h; exact same ((done_f h).trans (by simp))
  | ldR16 p n => rw [exec_ldR16] at h; exact same ((done_f h).trans (by simp))
  | push p => rw [exec_push] at h; exact same ((done_f h).trans (by simp))
  | pop p =>
    rw [exec_pop] at h
    cases p with
    | af => rw [done_f h]; exact .all _ _ (and_F0_nibble _)
    | bc | de | hl => exact same ((done_f h).trans rfl)
  | alu op src =>
    rw [exec_alu] at h; rw [flagsWritten_alu, done_f h]
    cases op <;> exact all_flags _
  | inc8 x =>
    rw [exec_inc8] at h; rw [flagsWritten_inc8, done_f h]
    exact .some (by decide) nofun nofun nofun fun _ => rfl
  | dec8 x =>
    rw [exec_dec8] at h; rw [flagsWritten_dec8, done_f h]
    exact .some (by decide) nofun nofun nofun fun _ => rfl
  | addHL p =>
    rw [exec_addHL] at h; rw [flagsWritten_addHL, done_f h]
    exact .some (by decide) (fun _ => rfl) nofun nofun nofun
  | inc16 p => rw [exec_inc16] at h; exact same ((done_f h).trans (by simp))
  | dec16 p => rw [exec_dec16] at h; exact same ((done_f h).trans (by simp))
  | jpCond cc a =>
    rw [exec_jpCond] at h; unfold jumpIf at h
    split at h <;> exact same ((done_f h).trans rfl)
  | jrCond cc e =>
    rw [exec_jrCond] at h; unfold jumpRelIf at h
    split at h <;> exact same ((done_f h).trans rfl)
  | callCond cc a =>
    rw [exec_callCond] at h; unfold callIf at h
    split at h <;> exact same ((done_f h).trans (by simp))
  | retCond cc =>
    rw [exec_retCond] at h; unfold returnIf at h
    split at h <;> exact same ((done_f h).trans rfl)
  | rst y => rw [exec_rst] at h; exact same ((done_f h).trans (by simp))
  | rot op x => rw [exec_rot] at h; rw [flagsWritten_rot, done_f h]; exact all_flags _
  | bit n x =>
    rw [exec_bit] at h; rw [flagsWritten_bit, done_f h]
    exact .some (by decide) nofun nofun nofun fun _ => rfl
  | res n x => rw [exec_res] at h; exact same ((done_f h).trans (by simp))
  | set n x => rw [exec_set] at h; exact same ((done_f h).trans (by simp))
  | ld_ma16_SP | ld_mHL_n8 | ldh_ma8_A | ld_ma16_A | ld_mBC_A | ld_mDE_A | ld_mHLinc_A | ld_mHLdec_A | ld_mC_A | call_a16 =>
    exact same ((done_f h).trans (by simp))
  | rlca | rrca | rla | rra | add_SP_e8 | ld_HL_SPe8 => rw [done_f h]; exact all_flags _
  | daa => rw [done_f h]; exact .some (m := 0xB0) (by decide) nofun (fun _ => rfl) nofun nofun
  | cpl => rw [done_f h]; exact .some (m := 0x60) (by decide) (fun _ => rfl) nofun nofun fun _ => rfl
  | scf | ccf => rw [done_f h]; exact .some (m := 0x70) (by decide) (fun _ => rfl) nofun nofun nofun
  | _ => cases h; exact .unchanged _ _

/-- Settles O37: the kept flags and the kept byte of the flag effect of every instruction. -/
theorem flagFrame : Obligations.FlagFrame := by
  intro i s t h
  obtain ⟨kept, keptWhole, -⟩ := exec_flagEffect i s t h
  exact ⟨kept, keptWhole⟩

end Sys2Proof.Machine
/-! ## PROOFS: The part of a legal state that lies beside the CPU: the arrays' form, the controller, the legal banking registers and
the countdown; every operation over the bus keeps it. -/

namespace Sys2Proof.Machine

/-! ### The banking registers -/

/-- The cartridge's controller and its banking registers (R40). -/
structure Banking where
  mbc : Mbc
  romBank : Byte
  ramBank : BitVec 2
  ramEnabled : Bool
  romBankingMode : Bool

/-- The controller and banking registers of a state. -/
def State.banking (s : State) : Banking :=
  { mbc := s.mbc, romBank := s.romBank, ramBank := s.ramBank, ramEnabled := s.ramEnabled, romBankingMode := s.romBankingMode }

/-- The legal values of the banking registers, a clause for each of `State.Inv` (R40, R60 to R64). -/
structure Banking.Legal (b : Banking) : Prop where
  romBank : b.mbc.legalRomBank b.romBank
  ramBank : b.mbc ≠ .mbc1 ∨ b.romBankingMode = true → b.ramBank = 0
  ramEnabled : b.mbc = .noController → b.ramEnabled = false
  romMode : b.mbc ≠ .mbc1 → b.romBankingMode = true

theorem forceBank_pos (v : Byte) : 1 ≤ (forceBank v).toNat := by
  unfold forceBank
  split
  · decide
  · next h => exact Nat.pos_of_ne_zero fun e => h (BitVec.eq_of_toNat_eq e)

theorem forceBank_le (v : Byte) (n : Nat) (hn : 1 ≤ n) (hv : v.toNat ≤ n) : (forceBank v).toNat ≤ n := by
  unfold forceBank
  split
  · exact hn
  · exact hv

theorem and_toNat_le (v w : Byte) : (v &&& w).toNat ≤ w.toNat := by
  rw [BitVec.toNat_and]; exact Nat.and_le_right

theorem or_toNat_le_7F (v w : Byte) (hv : v.toNat ≤ 0x7F) (hw : w.toNat ≤ 0x7F) : (v ||| w).toNat ≤ 0x7F := by
  rw [BitVec.toNat_or]
  exact Nat.le_of_lt_succ (Nat.or_lt_two_pow (n := 7) (Nat.lt_succ_of_le hv) (Nat.lt_succ_of_le hw))

theorem highBits_toNat_le (v : Byte) : ((v &&& 0x03) <<< 5).toNat ≤ 0x7F := by
  have h : (v &&& 0x03).toNat ≤ 3 := and_toNat_le v 0x03
  rw [BitVec.toNat_shiftLeft, Nat.shiftLeft_eq]
  omega

theorem State.ramEnableWrite_bankingLegal (s : State) (a : Word) (v : Byte) (h : s.banking.Legal) :
    (s.ramEnableWrite a v).banking.Legal := by
  obtain ⟨hrom, hram, hen, hmode⟩ := h
  unfold State.ramEnableWrite
  split_ifs with hn
  · exact ⟨hrom, hram, hen, hmode⟩
  · exact ⟨hrom, hram, hen, hmode⟩
  · exact ⟨hrom, hram, fun e => absurd e hn, hmode⟩
  · exact ⟨hrom, hram, fun e => absurd e hn, hmode⟩
  · exact ⟨hrom, hram, hen, hmode⟩

theorem State.lowBankSelect_bankingLegal (s : State) (v : Byte) (h : s.banking.Legal) : (s.lowBankSelect v).banking.Legal := by
  obtain ⟨hrom, hram, hen, hmode⟩ := h
  unfold State.lowBankSelect
  split
  · next hm =>
    have hbank : s.mbc.legalRomBank (forceBank (v &&& 0x0F)) := by
      rw [hm]; exact ⟨forceBank_pos _, forceBank_le _ _ (by decide) (and_toNat_le v 0x0F)⟩
    exact ⟨hbank, hram, hen, hmode⟩
  · next hm =>
    have hlegal : s.mbc.legalRomBank s.romBank := hrom
    rw [hm] at hlegal
    have hold : (s.romBank &&& 0xE0).toNat ≤ 0x7F := by
      rw [BitVec.toNat_and]; exact Nat.le_trans Nat.and_le_left hlegal.2
    have hnew : (v &&& 0x1F).toNat ≤ 0x7F := Nat.le_trans (and_toNat_le v 0x1F) (by decide)
    have hbank : s.mbc.legalRomBank (forceBank ((s.romBank &&& 0xE0) ||| (v &&& 0x1F))) := by
      rw [hm]; exact ⟨forceBank_pos _, forceBank_le _ _ (by decide) (or_toNat_le_7F _ _ hold hnew)⟩
    exact ⟨hbank, hram, hen, hmode⟩
  · exact ⟨hrom, hram, hen, hmode⟩

theorem State.highBankSelect_bankingLegal (s : State) (v : Byte) (h : s.banking.Legal) : (s.highBankSelect v).banking.Legal := by
  obtain ⟨hrom, hram, hen, hmode⟩ := h
  unfold State.highBankSelect
  split
  · next hm =>
    split
    · have hold : (s.romBank &&& 0x1F).toNat ≤ 0x7F := Nat.le_trans (and_toNat_le s.romBank 0x1F) (by decide)
      have hbank : s.mbc.legalRomBank (forceBank ((s.romBank &&& 0x1F) ||| ((v &&& 0x03) <<< 5))) := by
        rw [hm]; exact ⟨forceBank_pos _, forceBank_le _ _ (by decide) (or_toNat_le_7F _ _ hold (highBits_toNat_le v))⟩
      exact ⟨hbank, hram, hen, hmode⟩
    · next hr => exact ⟨hrom, fun e => e.elim (absurd hm) (absurd · hr), hen, hmode⟩
  · exact ⟨hrom, hram, hen, hmode⟩

theorem State.modeSelect_bankingLegal (s : State) (v : Byte) (h : s.banking.Legal) : (s.modeSelect v).banking.Legal := by
  obtain ⟨hrom, hram, hen, hmode⟩ := h
  unfold State.modeSelect
  split
  · next hm =>
    split
    · exact ⟨hrom, fun e => e.elim (absurd hm) nofun, hen, absurd hm⟩
    · exact ⟨hrom, fun _ => rfl, hen, fun _ => rfl⟩
  · exact ⟨hrom, hram, hen, hmode⟩

theorem State.handleBanking_bankingLegal (s : State) (a : Word) (v : Byte) (h : s.banking.Legal) :
    (s.handleBanking a v).banking.Legal := by
  unfold State.handleBanking
  split_ifs
  exacts [s.ramEnableWrite_bankingLegal a v h, s.lowBankSelect_bankingLegal v h, s.highBankSelect_bankingLegal v h,
    s.modeSelect_bankingLegal v h]

theorem State.memWrite_bankingLegal (s : State) (a : Word) (v : Byte) (h : s.banking.Legal) : (s.memWrite a v).banking.Legal := by
  by_cases ha : a.toNat ≤ 0x7FFF
  · rw [s.memWrite_banking a v ha]; exact s.handleBanking_bankingLegal a v h
  · have hbank : (s.memWrite a v).banking = s.banking := by
      obtain ⟨eb, ek, ee, em⟩ := s.memWrite_above_rom a v (by omega)
      simp only [State.banking, State.memWrite_mbc, eb, ek, ee, em]
    rw [hbank]; exact h

/-! ### The countdown -/

theorem timerPeriod_bounds (tac : Byte) : 1 ≤ timerPeriod tac ∧ timerPeriod tac ≤ 1024 := by
  unfold timerPeriod
  split <;> decide

/-! ### Both, with the arrays and the controller -/

/-- The clauses of `State.Inv` that speak of nothing but the memory, the cartridge's controller and the timer. -/
def State.BoardLegal (s : State) : Prop :=
  s.memoryForm ∧ s.mbc = mbcOfType (s.cartByte 0x0147) ∧ s.banking.Legal ∧ 1 ≤ s.timerCounter ∧ s.timerCounter ≤ 1024

theorem State.Inv.boardLegal {s : State} (h : s.Inv) : s.BoardLegal :=
  ⟨⟨h.winForm, h.eramForm, h.cartForm⟩, h.controller, ⟨h.romBankLegal, h.ramBankZero, h.noControllerRam, h.romModeFixed⟩,
    h.countdown⟩

theorem State.memWrite_boardLegal (s : State) (a : Word) (v : Byte) (h : s.BoardLegal) : (s.memWrite a v).BoardLegal := by
  obtain ⟨hform, hmbc, hbank, hcount⟩ := h
  refine ⟨s.memWrite_memoryForm a v hform, by simpa [State.cartByte] using hmbc, s.memWrite_bankingLegal a v hbank, ?_⟩
  rw [State.memWrite_timerCounter]
  split
  · exact timerPeriod_bounds v
  · exact hcount

theorem State.setWin_boardLegal (s : State) (a : Word) (v : Byte) (h : s.BoardLegal) : (s.setWin a v).BoardLegal :=
  ⟨s.setWin_memoryForm a v h.1, h.2⟩

theorem State.request_boardLegal (s : State) (n : IrqSource) (h : s.BoardLegal) : (s.request n).BoardLegal :=
  s.setWin_boardLegal _ _ h

/-- The board does not read the CPU's fields. -/
theorem State.withCpu_boardLegal (s t : State) (h : s.BoardLegal) : (s.withCpu t).BoardLegal := h

theorem State.push16_boardLegal (s : State) (v : Word) (h : s.BoardLegal) : (s.push16 v).BoardLegal := by
  rw [State.push16_eq]
  exact State.memWrite_boardLegal _ _ _ (s.memWrite_boardLegal _ _ h)

theorem State.service_boardLegal (s : State) (n : IrqSource) (h : s.BoardLegal) : (s.service n).BoardLegal := by
  unfold State.service
  have hw := s.setWin_boardLegal addrIF (s.winByte addrIF &&& ~~~n.mask) h
  exact State.push16_boardLegal _ _ hw

theorem State.tick_timerCounter_bounds (s : State) (cyc : Nat) (h : 1 ≤ s.timerCounter ∧ s.timerCounter ≤ 1024) :
    1 ≤ (s.tick cyc).timerCounter ∧ (s.tick cyc).timerCounter ≤ 1024 := by
  simp only [State.tick, State.tickTimer]
  split_ifs with _ hc
  · exact timerPeriod_bounds _
  · exact timerPeriod_bounds _
  · simp only [State.tickDivider_timerCounter] at hc ⊢
    omega
  · exact h

theorem State.tick_boardLegal (s : State) (cyc : Nat) (h : s.BoardLegal) : (s.tick cyc).BoardLegal := by
  obtain ⟨hform, hmbc, hbank, hcount⟩ := h
  exact ⟨s.tick_memoryForm cyc hform, by simpa [State.cartByte] using hmbc, by simpa [State.banking] using hbank,
    s.tick_timerCounter_bounds cyc hcount⟩

theorem State.applyAnswer_boardLegal (s : State) (ans : RenderAnswer) (h : s.BoardLegal) : (s.applyAnswer ans).BoardLegal := by
  simp only [State.applyAnswer]
  split_ifs
  exacts [State.request_boardLegal _ _ (s.request_boardLegal _ h), s.request_boardLegal _ h, s.request_boardLegal _ h, h]

theorem State.poll_boardLegal (s : State) (h : s.BoardLegal) : s.poll.BoardLegal := by
  rcases s.poll_cases with e | ⟨n, _, _, e⟩ <;> rw [e]
  · exact h
  · exact s.service_boardLegal n h

theorem exec_boardLegal (i : Instr) (s t : State) (h : exec i s = .next t) (hs : s.BoardLegal) : t.BoardLegal :=
  exec_keeps (P := State.BoardLegal) h hs (fun u a _ v => u.memWrite_boardLegal a v) fun u => u.withCpu_boardLegal t

end Sys2Proof.Machine

/-! ## PROOFS: Every step keeps `State.Inv`: the instruction, the pending flags it resolves, and the rest of the iteration. -/

namespace Sys2Proof.Machine

/-! ### An unrecognized byte -/

/-- An unrecognized instruction records its byte and the address before pc, and changes nothing else (R315, R331). -/
theorem exec_unrecognized (i : Instr) (s : State) (hi : i.unrecognized = true) :
    ∃ b : Byte, exec i s = .next { s with fault := some { pc := s.pc - 1, byte := b } } ∧
      (decodeBytes b 0 0).unrecognized = true := by
  cases i with
  | unrecognized_D3 => exact ⟨0xD3, rfl, rfl⟩
  | unrecognized_DB => exact ⟨0xDB, rfl, rfl⟩
  | unrecognized_DD => exact ⟨0xDD, rfl, rfl⟩
  | unrecognized_E3 => exact ⟨0xE3, rfl, rfl⟩
  | unrecognized_E4 => exact ⟨0xE4, rfl, rfl⟩
  | unrecognized_EB => exact ⟨0xEB, rfl, rfl⟩
  | unrecognized_EC => exact ⟨0xEC, rfl, rfl⟩
  | unrecognized_ED => exact ⟨0xED, rfl, rfl⟩
  | unrecognized_F4 => exact ⟨0xF4, rfl, rfl⟩
  | unrecognized_FC => exact ⟨0xFC, rfl, rfl⟩
  | unrecognized_FD => exact ⟨0xFD, rfl, rfl⟩
  | _ => cases hi

/-! ### The pending flags -/

/-- A pending DI resolves after every first byte but its own (R345). -/
theorem State.resolvePending_diPending (s : State) (op : Byte) :
    (s.resolvePending op).diPending = (s.diPending && op == 0xF3) := by
  simp only [State.resolvePending]
  split_ifs <;> simp_all

/-- A pending EI resolves after every first byte but its own (R345). -/
theorem State.resolvePending_eiPending (s : State) (op : Byte) :
    (s.resolvePending op).eiPending = (s.eiPending && op == 0xFB) := by
  simp only [State.resolvePending]
  split_ifs <;> simp_all

/-- After one instruction at most one is pending, since no byte is both DI and EI (R343). -/
theorem State.resolvePending_onePending (s : State) (op : Byte) :
    ¬((s.resolvePending op).eiPending = true ∧ (s.resolvePending op).diPending = true) := by
  rw [State.resolvePending_diPending, State.resolvePending_eiPending]
  simp only [Bool.and_eq_true, beq_iff_eq]
  rintro ⟨⟨_, hFB⟩, _, hF3⟩
  rw [hFB] at hF3
  exact absurd hF3 (by decide)

theorem State.resolvePending_boardLegal (s : State) (op : Byte) (h : s.BoardLegal) : (s.resolvePending op).BoardLegal := by
  simp only [State.resolvePending]
  split_ifs <;> exact h

/-! ### Legal states that have not faulted -/

/-- A legal state that has not faulted. It speaks of neither pc nor `halted` nor a cycle count nor RENDER's script. -/
def State.LiveLegal (s : State) : Prop :=
  s.BoardLegal ∧ s.f &&& 0x0F = 0 ∧ ¬(s.eiPending = true ∧ s.diPending = true) ∧ s.fault = none

theorem State.Inv.liveLegal {s : State} (h : s.Inv) (hl : s.fault = none) : s.LiveLegal :=
  ⟨h.boardLegal, h.flagNibble, h.onePending, hl⟩

theorem State.LiveLegal.inv {s : State} (h : s.LiveLegal) : s.Inv := by
  obtain ⟨⟨⟨hwin, heram, hcart⟩, hmbc, ⟨hrom, hram, hen, hmode⟩, hcount⟩, hf, hp, hl⟩ := h
  exact ⟨hf, hwin, heram, hcart, hmbc, hrom, hram, hen, hmode, hcount, hp, fun r hr => by rw [hl] at hr; cases hr⟩

/-- Recording an unrecognized byte just before pc keeps a state legal. -/
theorem State.Inv.withFault {s : State} (h : s.Inv) (b : Byte) (hb : (decodeBytes b 0 0).unrecognized = true) :
    ({ s with fault := some { pc := s.pc - 1, byte := b } } : State).Inv := by
  obtain ⟨hf, hwin, heram, hcart, hmbc, hrom, hram, hen, hmode, hcount, hp, -⟩ := h
  refine ⟨hf, hwin, heram, hcart, hmbc, hrom, hram, hen, hmode, hcount, hp, fun r hr => ?_⟩
  cases hr
  exact ⟨(BitVec.sub_add_cancel s.pc 1).symm, hb⟩

/-! ### The core's step -/

theorem fetchExecute_inv (s t : State) (hs : s.LiveLegal) (h : fetchExecute s = .next t) : t.Inv := by
  obtain ⟨u, hu, hstep⟩ := fetchExecute_eq s
  rw [hstep] at h
  have hpast : s.pastInstr.LiveLegal := hs
  by_cases hi : s.instrAtPc.unrecognized = true
  · obtain ⟨b, hb, hdec⟩ := exec_unrecognized s.instrAtPc s.pastInstr hi
    rw [hb] at hu
    cases hu; cases h
    exact hpast.inv.withFault b hdec
  · obtain ⟨hboard, hf, -, hl⟩ := hpast
    have hlive : u.fault = none := ((exec_controlFrame _ _ _ hu).fault (by simpa using hi)).trans hl
    have hnibble : u.f &&& 0x0F = 0 := (exec_flagEffect _ _ _ hu).nibble hf
    rw [if_pos hlive] at h
    cases h
    have hresolved : (u.resolvePending (s.memRead s.pc)).LiveLegal :=
      ⟨u.resolvePending_boardLegal _ (exec_boardLegal _ _ _ hu hboard), by simpa using hnibble, u.resolvePending_onePending _,
        by simpa using hlive⟩
    exact hresolved.inv

theorem coreStep_inv (s t : State) (hs : s.LiveLegal) (h : coreStep s = .next t) : t.Inv := by
  rcases coreStep_cases s with ⟨_, _, hwait⟩ | ⟨_, hrun⟩
  · rw [hwait] at h; cases h
    have hwaited : ({ s with stepCycles := 4 } : State).LiveLegal := hs
    exact hwaited.inv
  · rw [hrun] at h
    exact fetchExecute_inv { s with halted := false } t hs h

/-! ### The rest of the iteration -/

theorem State.tick_liveLegal (s : State) (cyc : Nat) (h : s.LiveLegal) : (s.tick cyc).LiveLegal := by
  obtain ⟨hboard, hcpu⟩ := h
  exact ⟨s.tick_boardLegal cyc hboard, by simpa using hcpu⟩

theorem State.applyAnswer_liveLegal (s : State) (ans : RenderAnswer) (h : s.LiveLegal) : (s.applyAnswer ans).LiveLegal := by
  obtain ⟨hboard, hcpu⟩ := h
  exact ⟨s.applyAnswer_boardLegal ans hboard, by simpa using hcpu⟩

/-- Taking an interrupt writes neither F, nor a pending flag, nor the fault (R352, D38). -/
theorem State.poll_liveLegal (s : State) (h : s.LiveLegal) : s.poll.LiveLegal := by
  obtain ⟨hboard, hcpu⟩ := h
  refine ⟨s.poll_boardLegal hboard, ?_⟩
  rcases s.poll_cases with e | ⟨n, _, _, e⟩ <;> rw [e]
  · exact hcpu
  · simpa using hcpu

theorem State.settle_liveLegal (s : State) (ans : RenderAnswer) (h : s.LiveLegal) : (s.settle ans).LiveLegal :=
  State.poll_liveLegal _ (s.applyAnswer_liveLegal ans h)

theorem State.afterStep_inv (s : State) (h : s.Inv) : s.afterStep.Inv := by
  cases hl : s.fault with
  | some r =>
    have hend : s.afterStep = s := by unfold State.afterStep; rw [hl]
    rw [hend]; exact h
  | none =>
    rw [afterStep_live s hl]
    have htick := s.tick_liveLegal s.stepCycles (h.liveLegal hl)
    exact (State.settle_liveLegal (s.tick s.stepCycles).dropAnswer s.nextAnswer htick).inv

/-- Settles O35: the core's step keeps the legal states, and so does what follows it in the iteration. -/
theorem stepKeepsInvariant : Obligations.StepKeepsInvariant := by
  intro s t hs h
  rcases step_cases s with ⟨r, _, hfault⟩ | ⟨hl, u, hu, hnext⟩
  · rw [hfault] at h; cases h
  · rw [hnext] at h; cases h
    exact u.afterStep_inv (coreStep_inv s u (hs.liveLegal hl) hu)

end Sys2Proof.Machine

/-! ## PROOFS: A bus read region by region, the window bytes that no bus read depends on and no step changes, and the echo. -/

namespace Sys2Proof.Machine

/-! ### MemRead by region (R56) -/

theorem State.memRead_rom (s : State) (a : Word) (h : a.toNat ≤ 0x7FFF) : s.memRead a = s.cartByte (s.romIndex a) := by
  unfold State.memRead; rw [if_pos h]

theorem State.memRead_external (s : State) (a : Word) (h : 0xA000 ≤ a.toNat) (h' : a.toNat ≤ 0xBFFF) :
    s.memRead a = if s.ramEnabled then s.eramByte (s.eramIndex a) else 0xFF := by
  unfold State.memRead
  rw [if_neg (by omega), if_neg (by omega), if_pos h']

theorem State.memRead_p1 (s : State) : s.memRead 0xFF00 = s.joypadRead := rfl

theorem State.memRead_div (s : State) : s.memRead 0xFF04 = hiByte s.divCounter := rfl

/-- A read of this address gives a byte of the window: plain storage, or the restricted region (R51, R67). -/
abbrev windowRead (a : Word) : Prop := plainAddr a ∨ (0xFEA0 ≤ a.toNat ∧ a.toNat ≤ 0xFEFE)

theorem echoBase_of_echo (a : Word) (h : 0xE000 ≤ a.toNat) (h' : a.toNat ≤ 0xFDFF) : echoBase a = a - 0x2000 := if_pos (by omega)

theorem echoBase_of_not_echo (a : Word) (h : a.toNat < 0xE000 ∨ 0xFDFF < a.toNat) : echoBase a = a := if_neg (by omega)

theorem echoBase_toNat (a : Word) :
    (echoBase a).toNat = if 0xE000 ≤ a.toNat ∧ a.toNat < 0xFE00 then a.toNat - 0x2000 else a.toNat := by
  unfold echoBase
  split
  · next h => exact echo_toNat a h.1
  · rfl

theorem State.memRead_window (s : State) (a : Word) (h : windowRead a) : s.memRead a = s.winByte (echoBase a) := by
  have hp1 : ¬a = addrP1 := fun e => by subst e; exact absurd h (by decide)
  have hdiv : ¬a = addrDIV := fun e => by subst e; exact absurd h (by decide)
  unfold windowRead plainAddr at h
  unfold State.memRead echoBase
  rw [if_neg hp1, if_neg hdiv]
  split_ifs <;> first | omega | rfl

/-- The regions of a bus read. -/
theorem read_cases (a : Word) :
    a.toNat ≤ 0x7FFF ∨ (0xA000 ≤ a.toNat ∧ a.toNat ≤ 0xBFFF) ∨ a = 0xFF00 ∨ a = 0xFF04 ∨ windowRead a := by
  unfold windowRead plainAddr
  bv_omega

/-! ### The window bytes that a bus read depends on, and those that a step changes -/

theorem echoBase_visible (a : Word) (h : windowRead a) :
    ¬hiddenCell (echoBase a).toNat ∨ (0xFEA0 ≤ (echoBase a).toNat ∧ (echoBase a).toNat < 0xFEFF) := by
  unfold windowRead plainAddr at h
  unfold hiddenCell
  rw [echoBase_toNat]
  split <;> omega

/-- Two windows that agree on the readable bytes give the same bus reads. -/
theorem State.memRead_congr_window (s : State) (w : Memory)
    (hw : ∀ n, ¬hiddenCell n ∨ (0xFEA0 ≤ n ∧ n < 0xFEFF) → Memory.read .win w n = Memory.read .win s.win n) (a : Word) :
    ({ s with win := w } : State).memRead a = s.memRead a := by
  rcases read_cases a with h | ⟨h, h'⟩ | rfl | rfl | h
  · rw [State.memRead_rom _ a h, State.memRead_rom _ a h]; rfl
  · rw [State.memRead_external _ a h h', State.memRead_external _ a h h']; rfl
  · have hp1 : ({ s with win := w } : State).winByte addrP1 = s.winByte addrP1 := hw 0xFF00 (by decide)
    rw [State.memRead_p1, State.memRead_p1, State.joypadRead, State.joypadRead, hp1]
  · rfl
  · rw [State.memRead_window _ a h, State.memRead_window _ a h]
    exact hw _ (echoBase_visible a h)

/-- A bus write lands in the cell of its address less the echo, and never in a hidden one. -/
theorem winCell_eq_some (a : Word) (n : Nat) (h : winCell a = some n) : n = (echoBase a).toNat ∧ ¬hiddenCell n := by
  rw [echoBase_toNat]
  unfold winCell at h
  unfold hiddenCell
  split_ifs at h <;> simp only [Option.some.injEq] at h <;> split <;> bv_omega

theorem State.memWrite_hiddenCell (s : State) (a : Word) (v : Byte) (n : Nat) (hn : hiddenCell n) :
    Memory.read .win (s.memWrite a v).win n = Memory.read .win s.win n := by
  rw [State.read_win_memWrite, if_neg fun h => (winCell_eq_some a n h).2 hn]

/-- What no step changes: the cartridge, its controller, the key latch and the hidden cells of the window. -/
def State.SameShadow (o s : State) : Prop :=
  s.cart = o.cart ∧ s.mbc = o.mbc ∧ s.joyLatch = o.joyLatch ∧
    ∀ n, hiddenCell n → Memory.read .win s.win n = Memory.read .win o.win n

section

variable {o s : State}

theorem State.SameShadow.memWrite (h : o.SameShadow s) (a : Word) (v : Byte) : o.SameShadow (s.memWrite a v) := by
  obtain ⟨hcart, hmbc, hjoy, hwin⟩ := h
  exact ⟨by simpa, by simpa, by simpa, fun n hn => (s.memWrite_hiddenCell a v n hn).trans (hwin n hn)⟩

/-- A direct write of a window byte that is not hidden, as the timer and the requests make (R337, R340). -/
theorem State.SameShadow.setWin (h : o.SameShadow s) (a : Word) (v : Byte) (ha : ¬hiddenCell a.toNat) :
    o.SameShadow (s.setWin a v) := by
  obtain ⟨hcart, hmbc, hjoy, hwin⟩ := h
  refine ⟨hcart, hmbc, hjoy, fun n hn => ?_⟩
  have hne : n ≠ a.toNat := fun e => ha (e ▸ hn)
  rw [State.setWin_win, Memory.read_write_other _ _ _ _ _ hne, hwin n hn]

theorem State.SameShadow.request (h : o.SameShadow s) (n : IrqSource) : o.SameShadow (s.request n) :=
  h.setWin _ _ (by decide)

theorem State.SameShadow.push16 (h : o.SameShadow s) (v : Word) : o.SameShadow (s.push16 v) := by
  rw [State.push16_eq]
  exact (h.memWrite _ _).memWrite _ _

theorem State.SameShadow.service (h : o.SameShadow s) (n : IrqSource) : o.SameShadow (s.service n) := by
  have hcleared : o.SameShadow { s.setWin addrIF (s.winByte addrIF &&& ~~~n.mask) with ime := false, halted := false } :=
    h.setWin _ _ (by decide)
  obtain ⟨hcart, hmbc, hjoy, hwin⟩ := hcleared.push16 s.pc
  exact ⟨hcart, hmbc, hjoy, hwin⟩

theorem State.SameShadow.tick (h : o.SameShadow s) (cyc : Nat) : o.SameShadow (s.tick cyc) := by
  have hdiv : o.SameShadow (s.tickDivider cyc) := h
  simp only [State.tick, State.tickTimer]
  split_ifs
  · exact State.SameShadow.request (State.SameShadow.setWin hdiv _ _ (by decide)) _
  · exact State.SameShadow.setWin hdiv _ _ (by decide)
  · exact hdiv
  · exact hdiv

theorem State.SameShadow.applyAnswer (h : o.SameShadow s) (ans : RenderAnswer) : o.SameShadow (s.applyAnswer ans) := by
  simp only [State.applyAnswer]
  split_ifs
  exacts [(h.request _).request _, h.request _, h.request _, h]

theorem State.SameShadow.poll (h : o.SameShadow s) : o.SameShadow s.poll := by
  rcases s.poll_cases with e | ⟨n, _, _, e⟩ <;> rw [e]
  · exact h
  · exact h.service n

theorem State.SameShadow.settle (h : o.SameShadow s) (ans : RenderAnswer) : o.SameShadow (s.settle ans) :=
  (h.applyAnswer ans).poll

theorem State.SameShadow.afterStep (h : o.SameShadow s) : o.SameShadow s.afterStep := by
  cases hl : s.fault with
  | some r => unfold State.afterStep; rw [hl]; exact h
  | none =>
    have hticked : o.SameShadow (s.tick s.stepCycles).dropAnswer := h.tick s.stepCycles
    rw [afterStep_live s hl]
    exact hticked.settle s.nextAnswer

theorem State.SameShadow.resolvePending (h : o.SameShadow s) (op : Byte) : o.SameShadow (s.resolvePending op) := by
  simp only [State.resolvePending]
  split_ifs <;> exact h

end

theorem exec_sameShadow (i : Instr) (s t : State) (h : exec i s = .next t) : s.SameShadow t :=
  exec_keeps (P := s.SameShadow) h ⟨rfl, rfl, rfl, fun _ _ => rfl⟩ (fun _ a _ v hu => hu.memWrite a v) fun _ hu => hu

theorem fetchExecute_sameShadow (s t : State) (h : fetchExecute s = .next t) : s.SameShadow t := by
  obtain ⟨u, hu, hstep⟩ := fetchExecute_eq s
  have hs : s.SameShadow u := exec_sameShadow s.instrAtPc s.pastInstr u hu
  rw [hstep] at h
  split at h <;> cases h
  · exact hs.resolvePending _
  · exact hs

theorem coreStep_sameShadow (s t : State) (h : coreStep s = .next t) : s.SameShadow t := by
  rcases coreStep_cases s with ⟨_, _, hwait⟩ | ⟨_, hrun⟩
  · rw [hwait] at h; cases h
    exact ⟨rfl, rfl, rfl, fun _ _ => rfl⟩
  · rw [hrun] at h
    exact fetchExecute_sameShadow { s with halted := false } t h

/-- Settles O43: the core's step and the rest of its iteration store to no hidden cell, and every bus read is a function of the
readable ones. -/
theorem windowShadow : Obligations.WindowShadow := by
  refine ⟨fun s t h => ?_, State.memRead_congr_window⟩
  rcases step_cases s with ⟨r, _, hfault⟩ | ⟨_, u, hu, hnext⟩
  · rw [hfault] at h; cases h
  · rw [hnext] at h; cases h
    exact (coreStep_sameShadow s u hu).afterStep

/-! ### Plain storage and the echo (R51, R65) -/

theorem winCell_of_plainAddr (a : Word) (h : plainAddr a) : winCell a = some (echoBase a).toNat := by
  by_cases he : 0xE000 ≤ a.toNat ∧ a.toNat ≤ 0xFDFF
  · rw [echoBase_toNat]
    unfold winCell
    split_ifs <;> first | omega | rfl
  · rw [winCell_of_plain a h (by omega), echoBase_of_not_echo a (by omega)]

/-- A store to plain storage is one write of the window. -/
theorem State.memWrite_plain (s : State) (a : Word) (v : Byte) (h : plainAddr a) (ht : a ≠ 0xFF07) :
    s.memWrite a v = s.setWin (echoBase a) v := by
  by_cases he : 0xE000 ≤ a.toNat ∧ a.toNat ≤ 0xFDFF
  · rw [s.memWrite_echo a v he.1 he.2, echoBase_of_echo a he.1 he.2]
  · rw [s.memWrite_window a v h (by omega) ht, echoBase_of_not_echo a (by omega)]

/-- A byte stored to plain storage is read at both names of the address. -/
theorem State.memRead_memWrite_plain (s : State) (a b : Word) (v : Byte) (ha : plainAddr a) (hb : plainAddr b)
    (h : echoBase b = echoBase a) : (s.memWrite a v).memRead b = v := by
  rw [State.memRead_window _ b (.inl hb), h, State.winByte, State.read_win_memWrite, winCell_of_plainAddr a ha, if_pos rfl]

/-- Settles O42: an echo address and the one below it are two plain names of one window byte, and the echo's own bytes are hidden
cells. -/
theorem echoRegion : Obligations.EchoRegion := by
  refine ⟨fun s e v h h' => ?_, fun s a v n h h' => s.memWrite_hiddenCell a v n (by unfold hiddenCell; omega),
    fun s w hw => s.memRead_congr_window w fun n hn => hw n (by unfold hiddenCell at hn; omega)⟩
  have hbase : (e - 0x2000).toNat = e.toNat - 0x2000 := echo_toNat e h
  have hplain : plainAddr e := by unfold plainAddr; omega
  have hplain' : plainAddr (e - 0x2000) := by unfold plainAddr; omega
  have he : echoBase e = e - 0x2000 := echoBase_of_echo e h h'
  have he' : echoBase (e - 0x2000) = e - 0x2000 := echoBase_of_not_echo _ (by omega)
  refine ⟨?_, s.memWrite_echo e v h h', ?_, ?_, ?_, ?_⟩
  · rw [s.memRead_window e (.inl hplain), he]
  · rw [s.memRead_window _ (.inl hplain'), he']
  · rw [s.memWrite_plain _ v hplain' (by bv_omega), he']
  · exact s.memRead_memWrite_plain e _ v hplain hplain' (he'.trans he.symm)
  · exact s.memRead_memWrite_plain _ e v hplain' hplain (he.trans he'.symm)

end Sys2Proof.Machine

/-! ## PROOFS: The frame of an instruction's bus writes: the storage bytes outside their cells, and the bus reads of other addresses. -/

namespace Sys2Proof.Machine

/-! ### The addresses an instruction stores to -/

/-- An instruction stores to nothing, to one address, to an address and the one after it, or to the two below SP. -/
theorem storeAddrs_shape (i : Instr) (s : State) :
    i.storeAddrs s = [] ∨ (∃ a, i.storeAddrs s = [a]) ∨ (∃ a, i.storeAddrs s = [a, a + 1]) ∨
      i.storeAddrs s = [s.sp - 1, s.sp - 2] := by
  induction i using Instr.byGroup with
  | ldReg | ldRegMem | ldRegImm | ldR16 | pop | alu | addHL | inc16 | dec16 | jpCond | jrCond | retCond | bit =>
    exact .inl (by simp)
  | ldMemReg => exact .inr (.inl ⟨s.hl, by simp⟩)
  | inc8 x | dec8 x | rot _ x | res _ x | set _ x =>
    cases x with
    | reg r => exact .inl (by simp)
    | mHL => exact .inr (.inl ⟨s.hl, by simp⟩)
  | push | rst => exact .inr (.inr (.inr (by simp)))
  | callCond cc a =>
    rw [storeAddrs_callCond]
    split
    · exact .inr (.inr (.inr rfl))
    · exact .inl rfl
  | call_a16 => exact .inr (.inr (.inr rfl))
  | ld_ma16_SP a => exact .inr (.inr (.inl ⟨a, rfl⟩))
  | ld_mHL_n8 | ldh_ma8_A | ld_ma16_A | ld_mBC_A | ld_mDE_A | ld_mHLinc_A | ld_mHLdec_A | ld_mC_A => exact .inr (.inl ⟨_, rfl⟩)
  | _ => exact .inl rfl

/-- A store to a cannot move the external RAM byte that a later store to b writes: a is no banking register, or b is elsewhere. -/
def keepsEramCell (a b : Word) : Prop := 0x8000 ≤ a.toNat ∨ b.toNat < 0xA000 ∨ 0xBFFF < b.toNat

/-- No instruction writes a banking register and then external RAM: its two addresses are adjacent. -/
theorem storeAddrs_keepsEramCell (i : Instr) (s : State) : (i.storeAddrs s).Pairwise keepsEramCell := by
  rcases storeAddrs_shape i s with h | ⟨a, h⟩ | ⟨a, h⟩ | h <;> rw [h]
  · exact List.Pairwise.nil
  · exact List.pairwise_singleton _ _
  · exact List.pairwise_pair.mpr (by unfold keepsEramCell; bv_omega)
  · exact List.pairwise_pair.mpr (by unfold keepsEramCell; bv_omega)

/-! ### Storage bytes outside the stores' cells -/

theorem State.eramCell_memWrite (s : State) (a b : Word) (v : Byte) (h : keepsEramCell a b) :
    (s.memWrite a v).eramCell b = s.eramCell b := by
  rcases h with ha | hb
  · obtain ⟨-, hbank, hen, -⟩ := s.memWrite_above_rom a v ha
    rw [State.eramCell, State.eramCell, hbank, hen]
  · rw [State.eramCell, State.eramCell, if_neg (by omega), if_neg (by omega)]

theorem State.read_eram_storeAll (ws : List (Word × Byte)) (s : State) (n : Nat) (hws : (ws.map Prod.fst).Pairwise keepsEramCell)
    (hn : ∀ a ∈ ws.map Prod.fst, s.eramCell a ≠ some n) :
    Memory.read .eram (s.storeAll ws).eram n = Memory.read .eram s.eram n := by
  induction ws generalizing s with
  | nil => rfl
  | cons w ws ih =>
    obtain ⟨a, v⟩ := w
    simp only [List.map_cons, List.pairwise_cons, List.forall_mem_cons] at hws hn
    obtain ⟨hfirst, hrest⟩ := hws
    obtain ⟨ha, hn⟩ := hn
    have later := ih (s.memWrite a v) hrest fun b hb => by rw [s.eramCell_memWrite a b v (hfirst b hb)]; exact hn b hb
    exact later.trans (by rw [State.read_eram_memWrite, if_neg ha])

/-- Settles O38: each bus write changes its own cell alone, and none moves the cell of a later one. -/
theorem memoryFrame : Obligations.MemoryFrame := by
  intro i s t h
  refine ⟨(exec_sameShadow i s t h).1, fun n hn => ?_, fun n hn => ?_⟩
  · refine exec_keeps (P := fun u => Memory.read .win u.win n = Memory.read .win s.win n) h rfl (fun u a ha v hu => ?_) fun _ hu => hu
    rw [State.read_win_memWrite, if_neg (hn a ha), hu]
  · obtain ⟨ws, hws, ht⟩ := exec_stores i s t h
    rw [← hws] at hn
    rw [ht]
    exact State.read_eram_storeAll ws s n (hws ▸ storeAddrs_keepsEramCell i s) hn

/-! ### Bus reads of other addresses -/

theorem State.winByte_memWrite_other (s : State) (a b : Word) (v : Byte) (h : echoBase a ≠ b) :
    (s.memWrite a v).winByte b = s.winByte b := by
  rw [State.winByte, State.winByte, State.read_win_memWrite]
  exact if_neg fun hc => h (BitVec.eq_of_toNat_eq (winCell_eq_some a _ hc).1.symm)

/-- In one bank, the external RAM byte of an address is no other address's. -/
theorem State.eramCell_eq_eramIndex (s : State) (a b : Word) (hb : 0xA000 ≤ b.toNat) (h : s.eramCell a = some (s.eramIndex b)) :
    a = b := by
  unfold State.eramCell State.eramIndex at h
  split at h
  · have := Option.some.inj h; bv_omega
  · cases h

/-- A store outside the banking registers is seen at its own address and at the echo of it only. -/
theorem State.memRead_memWrite_other (s : State) (a b : Word) (v : Byte) (ha : 0x8000 ≤ a.toNat) (hne : echoBase a ≠ echoBase b) :
    (s.memWrite a v).memRead b = s.memRead b := by
  obtain ⟨hrom, hbank, hen, -⟩ := s.memWrite_above_rom a v ha
  rcases read_cases b with hb | ⟨hb, hb'⟩ | rfl | rfl | hb
  · rw [State.memRead_rom _ b hb, State.memRead_rom _ b hb]
    simp [State.cartByte, State.romIndex, hrom]
  · have hcell : s.eramCell a ≠ some (s.eramIndex b) := fun h => hne (by rw [s.eramCell_eq_eramIndex a b hb h])
    have hindex : (s.memWrite a v).eramIndex b = s.eramIndex b := by rw [State.eramIndex, State.eramIndex, hbank]
    rw [State.memRead_external _ b hb hb', State.memRead_external _ b hb hb', hen, hindex, State.eramByte, State.eramByte,
      State.read_eram_memWrite, if_neg hcell]
  · rw [State.memRead_p1, State.memRead_p1, State.joypadRead, State.joypadRead, State.memWrite_joyLatch,
      s.winByte_memWrite_other a addrP1 v hne]
  · rw [State.memRead_div, State.memRead_div, State.memWrite_divCounter, if_neg (fun h => hne (by rw [h]))]
  · rw [State.memRead_window _ b hb, State.memRead_window _ b hb, s.winByte_memWrite_other a _ v hne]

/-- Settles O39: every bus write of the instruction leaves the read alone. -/
theorem readFrame : Obligations.ReadFrame := by
  intro i s t h habove b hb
  refine exec_keeps (P := fun u => u.memRead b = s.memRead b) h rfl (fun u a ha v hu => ?_) fun _ hu => hu
  rw [u.memRead_memWrite_other a b v (habove a ha) (hb a ha), hu]

end Sys2Proof.Machine

/-! ## PROOFS: The cartridge on the bus: the mapped reads, external RAM, and the writes to the banking registers. -/

namespace Sys2Proof.Machine

/-! ### Bits of a byte as numbers -/

/-- The low k bits of a byte. -/
theorem and_low_toNat (v : Byte) (k : Nat) (hk : k ≤ 8) : (v &&& BitVec.ofNat 8 (2 ^ k - 1)).toNat = v.toNat % 2 ^ k := by
  have hle : 2 ^ k ≤ 2 ^ 8 := Nat.pow_le_pow_right (by decide) hk
  rw [BitVec.toNat_and, BitVec.toNat_ofNat, Nat.mod_eq_of_lt (by omega), Nat.and_two_pow_sub_one_eq_mod]

theorem nibble_toNat (v : Byte) : (v &&& 0x0F).toNat = v.toNat % 16 := and_low_toNat v 4 (by decide)

/-- The bits of a byte from bit 5 up. -/
theorem and_E0_toNat (v : Byte) : (v &&& 0xE0#8).toNat = v.toNat / 32 * 32 := by
  have hbits : v &&& 0xE0#8 = (v >>> 5) <<< 5 := by
    ext k hk
    interval_cases k <;> simp
  have := v.isLt
  rw [hbits, BitVec.toNat_shiftLeft, BitVec.toNat_ushiftRight, Nat.shiftLeft_eq, Nat.shiftRight_eq_div_pow]
  omega

/-- Two bytes of disjoint bits joined, the one of bits 7:5 and the other of bits 4:0. -/
theorem or_toNat_of_split (v w : Byte) (m n : Nat) (hv : v.toNat = m * 32) (hw : w.toNat = n) (hn : n < 32) :
    (v ||| w).toNat = m * 32 + n := by
  rw [BitVec.toNat_or, hv, hw, Nat.mul_comm]
  exact (Nat.two_pow_add_eq_or_of_lt (i := 5) hn m).symm

theorem forceBank_eq (v : Byte) (n : Nat) (h : v.toNat = n) : forceBank v = if n = 0 then 1 else BitVec.ofNat 8 n := by
  have hzero : v = 0 ↔ n = 0 := by rw [← h]; exact BitVec.toNat_inj.symm
  have hv : BitVec.ofNat 8 n = v := by rw [← h]; exact (BitVec.ofNat_toNat 8 v).trans v.setWidth_eq
  simp only [forceBank, hzero, hv]

/-! ### The banking registers (R61 to R64) -/

theorem State.lowBankSelect_shape (s : State) (v : Byte) :
    s.lowBankSelect v = { s with romBank := (s.lowBankSelect v).romBank } := by
  unfold State.lowBankSelect
  split <;> rfl

/-- Settles O45: LowBankSelect writes the ROM bank alone, with its bits as numbers. -/
theorem lowBankSelect : Obligations.LowBankSelect := by
  intro s a v h h'
  have hnibble := forceBank_eq (v &&& 0x0F) _ (nibble_toNat v)
  have hjoined := forceBank_eq _ _ (or_toNat_of_split _ _ _ _ (and_E0_toNat s.romBank) (and_low_toNat v 5 (by decide))
    (Nat.mod_lt _ (by decide)))
  rw [s.memWrite_banking a v (by omega), State.handleBanking, if_neg (by omega), if_pos h', s.lowBankSelect_shape v]
  congr 1
  unfold State.lowBankSelect
  cases s.mbc with
  | noController => rfl
  | mbc1 => exact hjoined
  | mbc2 => exact hnibble

theorem getLsbD_eq_true_iff {w : Nat} (v : BitVec w) (k : Nat) : v.getLsbD k = true ↔ v.toNat / 2 ^ k % 2 = 1 := by
  rw [BitVec.getLsbD, Nat.testBit_eq_decide_div_mod_eq, decide_eq_true_eq]

theorem and_nibble_eq_iff (v : Byte) (n : Byte) : v &&& 0x0F = n ↔ v.toNat % 16 = n.toNat := by
  rw [← nibble_toNat, BitVec.toNat_inj]

theorem State.ramEnableWrite_eq (s : State) (a : Word) (v : Byte) :
    s.ramEnableWrite a v =
      { s with
        ramEnabled :=
          if s.mbc = .noController ∨ (s.mbc = .mbc2 ∧ a.toNat / 16 % 2 = 1) then s.ramEnabled
          else if v.toNat % 16 = 0xA then true
          else if v.toNat % 16 = 0 then false
          else s.ramEnabled } := by
  have hbit : a.getLsbD 4 = true ↔ a.toNat / 16 % 2 = 1 := getLsbD_eq_true_iff a 4
  have hA : v &&& 0x0F = 0x0A ↔ v.toNat % 16 = 0xA := and_nibble_eq_iff v 0x0A
  have h0 : v &&& 0x0F = 0x00 ↔ v.toNat % 16 = 0 := and_nibble_eq_iff v 0x00
  unfold State.ramEnableWrite
  simp only [hbit, hA, h0]
  by_cases hn : s.mbc = .noController
  · rw [if_pos hn, if_pos (.inl hn)]
  · by_cases hg : s.mbc = .mbc2 ∧ a.toNat / 16 % 2 = 1
    · rw [if_neg hn, if_pos hg, if_pos (.inr hg)]
    · rw [if_neg hn, if_neg hg, if_neg (not_or.mpr ⟨hn, hg⟩)]
      split_ifs <;> rfl

/-- The two bits that MBC1 takes for its high bank select, in their place (R63). -/
theorem highBits_toNat (v : Byte) : ((v &&& 0x03#8) <<< 5).toNat = v.toNat % 4 * 32 := by
  have hlow : (v &&& 0x03#8).toNat = v.toNat % 4 := and_low_toNat v 2 (by decide)
  rw [BitVec.toNat_shiftLeft, hlow, Nat.shiftLeft_eq]
  omega

theorem State.highBankSelect_mbc1 (s : State) (v : Byte) (hm : s.mbc = .mbc1) :
    s.highBankSelect v =
      if s.romBankingMode then
        { s with
          romBank :=
            if v.toNat % 4 * 32 + s.romBank.toNat % 32 = 0 then 1
            else BitVec.ofNat 8 (v.toNat % 4 * 32 + s.romBank.toNat % 32) }
      else { s with ramBank := BitVec.ofNat 2 v.toNat } := by
  have hjoined := forceBank_eq _ _ (or_toNat_of_split _ _ _ _ (highBits_toNat v) (and_low_toNat s.romBank 5 (by decide))
    (Nat.mod_lt _ (by decide)))
  unfold State.highBankSelect
  split
  · by_cases hr : s.romBankingMode = true
    · rw [if_pos hr, if_pos hr, BitVec.or_comm]
      exact congrArg (fun b => ({ s with romBank := b } : State)) hjoined
    · rw [if_neg hr, if_neg hr]
      rfl
  · next h => exact absurd hm h

theorem State.highBankSelect_other (s : State) (v : Byte) (hm : s.mbc ≠ .mbc1) : s.highBankSelect v = s := by
  unfold State.highBankSelect
  split
  · next h => exact absurd h hm
  · rfl

theorem State.modeSelect_mbc1 (s : State) (v : Byte) (hm : s.mbc = .mbc1) :
    s.modeSelect v =
      if v.toNat % 2 = 0 then { s with romBankingMode := true, ramBank := 0 } else { s with romBankingMode := false } := by
  have hbit : v.getLsbD 0 = true ↔ v.toNat % 2 = 1 := by simpa using getLsbD_eq_true_iff v 0
  unfold State.modeSelect
  split
  · by_cases hv : v.toNat % 2 = 0
    · rw [if_neg (fun h => by have := hbit.mp h; omega), if_pos hv]
    · rw [if_pos (hbit.mpr (by omega)), if_neg hv]
  · next h => exact absurd hm h

theorem State.modeSelect_other (s : State) (v : Byte) (hm : s.mbc ≠ .mbc1) : s.modeSelect v = s := by
  unfold State.modeSelect
  split
  · next h => exact absurd h hm
  · rfl

/-- Settles O46: each of the three ranges with its bits as numbers. -/
theorem bankingRegisters : Obligations.BankingRegisters := by
  intro s a v
  refine ⟨fun h => ?_, fun h h' => ?_, fun h h' => ?_⟩
  · rw [s.memWrite_banking a v (by omega), State.handleBanking, if_pos h, s.ramEnableWrite_eq a v]
  · rw [s.memWrite_banking a v (by omega), State.handleBanking, if_neg (by omega), if_neg (by omega), if_pos h']
    by_cases hm : s.mbc = .mbc1
    · rw [s.highBankSelect_mbc1 v hm, if_neg (not_not.mpr hm)]
    · rw [s.highBankSelect_other v hm, if_pos hm]
  · rw [s.memWrite_banking a v (by omega), State.handleBanking, if_neg (by omega), if_neg (by omega), if_neg (by omega)]
    by_cases hm : s.mbc = .mbc1
    · rw [s.modeSelect_mbc1 v hm, if_neg (not_not.mpr hm)]
    · rw [s.modeSelect_other v hm, if_pos hm]

/-! ### Mapped reads and external RAM (R59, R60) -/

theorem State.Inv.romBank_noController {s : State} (h : s.Inv) (hm : s.mbc = .noController) : s.romBank = 1 := by
  have hlegal := h.romBankLegal
  rw [hm] at hlegal
  exact hlegal

/-- In a legal state the ROM bank lies inside the 2 MB buffer (R40). -/
theorem State.Inv.romBank_le {s : State} (h : s.Inv) : s.romBank.toNat ≤ 0x7F := by
  have hlegal := h.romBankLegal
  cases hm : s.mbc <;> rw [hm] at hlegal
  case noController => rw [h.romBank_noController hm]; decide
  case mbc1 => exact hlegal.2
  case mbc2 => exact Nat.le_trans hlegal.2 (by decide)

/-- Settles O44: ROM and external RAM by region, and the bound of the bank in a legal state. -/
theorem mappedReads : Obligations.MappedReads := by
  intro s a v
  refine ⟨fun h => ?_, fun h h' => ?_, fun h h' => ⟨s.eramIndex_lt a h h', fun hen => ?_, fun hen => ?_⟩⟩
  · rw [s.memRead_rom a (by omega), State.romIndex, if_pos h]
  · have hread : s.memRead a = s.cartByte ((a.toNat - 0x4000) + s.romBank.toNat * 0x4000) := by
      rw [s.memRead_rom a h', State.romIndex, if_neg (by omega)]
    refine ⟨hread, fun hs => ⟨?_, fun hm => ?_⟩⟩
    · have := hs.romBank_le
      omega
    · have hindex : (a.toNat - 0x4000) + s.romBank.toNat * 0x4000 = a.toNat := by
        have hone : s.romBank.toNat = 1 := by rw [hs.romBank_noController hm]; rfl
        omega
      rw [hread, hindex]
  · have hread : ∀ u : State, u.ramEnabled = true → u.memRead a = u.eramByte (u.eramIndex a) := fun u hu => by
      rw [u.memRead_external a h h', if_pos hu]
    have hwrite : s.memWrite a v = s.setEram (s.eramIndex a) v := by rw [s.memWrite_external a v h h', if_pos hen]
    refine ⟨hread s hen, hwrite, ?_⟩
    rw [hwrite, hread (s.setEram (s.eramIndex a) v) hen]
    exact Memory.read_write_same .eram s.eram _ v
  · rw [s.memRead_external a h h', s.memWrite_external a v h h', hen]
    exact ⟨rfl, rfl⟩

end Sys2Proof.Machine

/-! ## PROOFS: The computed registers and plain storage: the joypad register, DIV, TAC, and every address that stores its byte. -/

namespace Sys2Proof.Machine

/-! ### TAC (R69) -/

/-- The period table of R35. -/
theorem timerPeriod_eq (v : Byte) : timerPeriod v = [1024, 16, 64, 256].getD (v.toNat % 4) 0 := by
  have hlow : (v &&& 0x03).toNat = v.toNat % 4 := and_low_toNat v 2 (by decide)
  have hlt : v.toNat % 4 < 4 := Nat.mod_lt _ (by decide)
  unfold timerPeriod
  rw [hlow]
  generalize v.toNat % 4 = n at hlt
  interval_cases n <;> rfl

/-- Settles O47: the write of TAC with its two low bits as numbers; TIMA and TMA are plain storage. -/
theorem timerControlWrite : Obligations.TimerControlWrite := by
  intro s v
  have low : ∀ w : Byte, (w &&& 0x03).toNat = w.toNat % 4 := fun w => and_low_toNat w 2 (by decide)
  have hsame : v &&& 0x03 = s.winByte 0xFF07 &&& 0x03 ↔ v.toNat % 4 = (s.winByte 0xFF07).toNat % 4 := by
    rw [← BitVec.toNat_inj, low, low]
  refine ⟨?_, s.memWrite_plain 0xFF05 v (by decide) (by decide), s.memWrite_plain 0xFF06 v (by decide) (by decide)⟩
  rw [State.memWrite_tac, State.tacWrite_eq, timerPeriod_eq]
  simp only [hsame]
  rfl

/-! ### The joypad register (R66, D27) -/

/-- A class of keys that is not selected leaves the bits alone. -/
theorem getLsbD_selected (b : Bool) (x y : Byte) (k : Nat) :
    (if b = true then x else x &&& y).getLsbD k = (x.getLsbD k && (b || y.getLsbD k)) := by
  cases b <;> simp

theorem State.joypadRead_getLsbD (s : State) (k : Nat) (hk : k < 8) :
    s.joypadRead.getLsbD k =
      (decide (6 ≤ k) || (decide (4 ≤ k) && (s.winByte 0xFF00).getLsbD k) ||
        (decide (k < 4) && ((s.winByte 0xFF00).getLsbD 4 || s.joyLatch.getLsbD k) &&
          ((s.winByte 0xFF00).getLsbD 5 || s.joyLatch.getLsbD (k + 4)))) := by
  have hp1 : addrP1 = 0xFF00 := rfl
  unfold State.joypadRead
  simp only [hp1, BitVec.getLsbD_or, BitVec.getLsbD_and, getLsbD_selected, BitVec.getLsbD_ushiftRight, Nat.add_comm 4 k]
  interval_cases k <;> simp

/-- Settles O48: the joypad register bit by bit, the divider, the restricted region, and plain storage under its one name. -/
theorem ioAndPlainStorage : Obligations.IoAndPlainStorage := by
  intro s a v
  refine ⟨s.joypadRead_getLsbD, s.memWrite_p1 v, hiByte_toNat s.divCounter, s.memWrite_div v, fun h h' => ?_, fun ha => ?_⟩
  · have hread := s.memRead_window a (.inr ⟨h, h'⟩)
    rw [echoBase_of_not_echo a (by omega)] at hread
    exact ⟨s.memWrite_restricted a v h h', hread⟩
  · exact ⟨s.memRead_window a (.inl ha), s.memRead_memWrite_plain a a v ha ha rfl, s.memWrite_plain a v ha⟩

end Sys2Proof.Machine

/-! ## PROOFS: Decoding and encoding are inverse: the decoder reads the words of the opcode maps, and those are the encodings. -/

namespace Sys2Proof

open Sys2Proof.Machine

/-! ### The words of the opcode maps -/

/-- A word that the opcode maps of R117 and R118 list, and the instruction they give it: a first byte with the immediate that its
entry takes (R105), or 0xCB and the byte after it (R114). -/
inductive MapWord : List Byte → Instr → Prop
  | op {b0 : Byte} {i : Instr} (entry : baseEntry b0 = .op i) : MapWord [b0] i
  | imm8 {b0 : Byte} {f : Byte → Instr} (entry : baseEntry b0 = .imm8 f) (n : Byte) : MapWord [b0, n] (f n)
  | imm16 {b0 : Byte} {f : Word → Instr} (entry : baseEntry b0 = .imm16 f) (w : Word) : MapWord [b0, loByte w, hiByte w] (f w)
  | cb {b0 : Byte} (entry : baseEntry b0 = .prefixCB) (b1 : Byte) : MapWord [b0, b1] (cbEntry b1)

/-! ### The decoder reads the words of the maps -/

theorem MapWord.decode_append {word : List Byte} {i : Instr} (hw : MapWord word i) (rest : List Byte) :
    decode (word ++ rest) = .ok (i, rest) := by
  cases hw with
  | op entry | imm8 entry | cb entry => simp [decode, instrLength, decodeBytes, entry]
  | imm16 entry w => simp [decode, instrLength, decodeBytes, entry, wordOf_bytes]

/-- A list that is as long as its first byte demands begins with a word of the maps. -/
theorem exists_mapWord_of_length {b0 : Byte} {tail : List Byte} (hlen : instrLength b0 ≤ tail.length + 1) :
    ∃ word i rest, MapWord word i ∧ b0 :: tail = word ++ rest := by
  cases entry : baseEntry b0 <;> simp only [instrLength, entry] at hlen
  case op => exact ⟨_, _, tail, .op entry, rfl⟩
  case imm8 =>
    obtain ⟨b1, rest, rfl⟩ := List.exists_cons_of_length_pos (l := tail) (by omega)
    exact ⟨_, _, rest, .imm8 entry b1, rfl⟩
  case imm16 =>
    obtain ⟨b1, b2, rest, rfl⟩ : ∃ b1 b2 rest, tail = b1 :: b2 :: rest := by
      match tail, hlen with
      | b1 :: b2 :: rest, _ => exact ⟨b1, b2, rest, rfl⟩
    exact ⟨_, _, rest, .imm16 entry (wordOf b2 b1), by simp⟩
  case prefixCB =>
    obtain ⟨b1, rest, rfl⟩ := List.exists_cons_of_length_pos (l := tail) (by omega)
    exact ⟨_, _, rest, .cb entry b1, rfl⟩

/-- What the decoder answers is the reading of a word of the maps at the head of the list. -/
theorem mapWord_of_decode {bytes rest : List Byte} {i : Instr} (h : decode bytes = .ok (i, rest)) :
    ∃ word, MapWord word i ∧ bytes = word ++ rest := by
  match bytes with
  | [] => cases h
  | b0 :: tail =>
    by_cases hlen : instrLength b0 ≤ tail.length + 1
    · obtain ⟨word, j, rest', hw, hsplit⟩ := exists_mapWord_of_length hlen
      rw [hsplit, hw.decode_append] at h
      cases h
      exact ⟨word, hw, hsplit⟩
    · simp [decode, hlen] at h

theorem decode_eq_error {bytes : List Byte} {e : DecodeError} (h : decode bytes = .error e) :
    bytes = [] ∨ ∃ b0 rest, bytes = b0 :: rest ∧ bytes.length < instrLength b0 := by
  match bytes with
  | [] => exact .inl rfl
  | b0 :: rest =>
    by_cases hlen : instrLength b0 ≤ rest.length + 1
    · simp [decode, hlen] at h
    · exact .inr ⟨b0, rest, rfl, not_le.mp hlen⟩

/-! ### The words of the maps are the encodings -/

/-- Every instruction stands in the maps, at its encoding. -/
theorem mapWord_encode (i : Instr) : MapWord (encode i) i := by
  induction i using Instr.byGroup with
  | ldReg dst src => cases dst <;> cases src <;> exact .op rfl
  | ldRegMem r | ldMemReg r => cases r <;> exact .op rfl
  | push p | pop p | addHL p | inc16 p | dec16 p => cases p <;> exact .op rfl
  | inc8 x | dec8 x => rcases x with ⟨⟨⟩⟩ | _ <;> exact .op rfl
  | alu op src =>
    cases src with
    | loc x => cases op <;> rcases x with ⟨⟨⟩⟩ | _ <;> exact .op rfl
    | imm n => cases op <;> exact .imm8 rfl n
  | retCond cc => cases cc <;> exact .op rfl
  | rst y => cases y <;> exact .op rfl
  | ldRegImm r n => cases r <;> exact .imm8 rfl n
  | jrCond cc e => cases cc <;> exact .imm8 rfl e
  | stop n | jr_e8 n | ld_mHL_n8 n | ldh_ma8_A n | ldh_A_ma8 n | add_SP_e8 n | ld_HL_SPe8 n => exact .imm8 rfl n
  | ldR16 p w => cases p <;> exact .imm16 rfl w
  | jpCond cc w | callCond cc w => cases cc <;> exact .imm16 rfl w
  | ld_ma16_SP w | ld_ma16_A w | ld_A_ma16 w | jp_a16 w | call_a16 w => exact .imm16 rfl w
  | rot op x => cases op <;> rcases x with ⟨⟨⟩⟩ | _ <;> exact .cb rfl _
  | bit n x | res n x | set n x => cases n <;> rcases x with ⟨⟨⟩⟩ | _ <;> exact .cb rfl _
  | _ => exact .op rfl

theorem encode_cbEntry (b1 : Byte) : encode (cbEntry b1) = [0xCB, b1] := by
  revert b1
  decide

/-- No instruction stands in the maps twice: the 256 first bytes one by one, and the 256 bytes after 0xCB. -/
theorem MapWord.eq_encode {word : List Byte} {i : Instr} (hw : MapWord word i) : word = encode i := by
  have literal : ∀ b0 : Byte, ∃ n < 256, b0 = BitVec.ofNat 8 n := fun b0 => ⟨b0.toNat, b0.isLt, by simp⟩
  cases hw with
  | @op b0 _ entry | @imm8 b0 _ entry | @imm16 b0 _ entry =>
    obtain ⟨n, hn, rfl⟩ := literal b0
    interval_cases n <;> cases entry <;> rfl
  | @cb b0 entry b1 =>
    obtain ⟨n, hn, rfl⟩ := literal b0
    interval_cases n <;> cases entry
    exact (encode_cbEntry b1).symm

/-! ### The statements -/

/-- Settles O33: an instruction's encoding is a word of the maps, and the decoder reads those whatever follows. -/
theorem decodeOfEncode : Obligations.DecodeOfEncode := fun i => (mapWord_encode i).decode_append

/-- Settles O34: the decoder reads words of the maps only, and those are the encodings. -/
theorem encodeOfDecode : Obligations.EncodeOfDecode := by
  intro bytes
  refine ⟨fun i rest h => ?_, fun e => decode_eq_error⟩
  obtain ⟨word, hw, rfl⟩ := mapWord_of_decode h
  rw [hw.eq_encode]

theorem decode_of_encode_eq {i : Instr} {word : List Byte} (h : encode i = word) : decode word = .ok (i, []) := by
  rw [← h, ← (encode i).append_nil]
  exact decodeOfEncode i []

/-- Settles O32: each word is the encoding of the instruction it stands for. -/
theorem spelledWordsDecode : Obligations.SpelledWordsDecode := by
  unfold Obligations.SpelledWordsDecode
  and_intros <;> exact decode_of_encode_eq rfl

end Sys2Proof

/-! ## PROOFS: The loads and stores of bytes and pairs: their encodings, and their arms of `exec` in the terms of the rules. -/

namespace Sys2Proof.Machine

/-! ### Encodings -/

theorem encode_ldReg (dst src : Reg8) : encode (.ldReg dst src) = [0b01#2 ++ dst.index ++ src.index] := by
  cases dst <;> cases src <;> rfl

theorem encode_ldRegMem (dst : Reg8) : encode (.ldRegMem dst) = [0b01#2 ++ dst.index ++ 0b110#3] := by cases dst <;> rfl

theorem encode_ldRegImm (dst : Reg8) (n : Byte) : encode (.ldRegImm dst n) = [0b00#2 ++ dst.index ++ 0b110#3, n] := by
  cases dst <;> rfl

theorem encode_ldMemReg (r : Reg8) : encode (.ldMemReg r) = [0b01110#5 ++ r.index] := by cases r <;> rfl

theorem encode_ldR16 (p : Reg16) (n : Word) : encode (.ldR16 p n) = [0b00#2 ++ p.index ++ 0b0001#4, loByte n, hiByte n] := by
  cases p <;> rfl

theorem encode_push (p : Reg16Stk) : encode (.push p) = [0b11#2 ++ p.index ++ 0b0101#4] := by cases p <;> rfl

theorem encode_pop (p : Reg16Stk) : encode (.pop p) = [0b11#2 ++ p.index ++ 0b0001#4] := by cases p <;> rfl

/-! ### Registers and the byte at HL -/

/-- Settles O1: one operation for each form, whatever the registers. -/
theorem loadRegister : Obligations.LoadRegister := by
  intro dst src n s
  exact ⟨⟨encode_ldReg dst src, exec_ldReg dst src s⟩, ⟨encode_ldRegMem dst, exec_ldRegMem dst s⟩,
    encode_ldRegImm dst n, exec_ldRegImm dst n s⟩

/-- Settles O2: one bus write at HL. -/
theorem storeByte : Obligations.StoreByte := by
  intro r n s
  exact ⟨⟨encode_ldMemReg r, exec_ldMemReg r s⟩, rfl, rfl⟩

/-! ### The accumulator -/

/-- The sum 0xFF00 + v of the rules is the high page's address (R105). -/
theorem highPage_eq (v : Byte) : highPage v = BitVec.ofNat 16 (0xFF00 + v.toNat) := by
  rw [← highPage_toNat, BitVec.ofNat_toNat, BitVec.setWidth_eq]

/-- Settles O3: `loadAccum` at the address of each rule. -/
theorem accumulatorLoads : Obligations.AccumulatorLoads := by
  intro a n s
  rw [← highPage_eq, ← highPage_eq]
  exact ⟨⟨rfl, rfl⟩, ⟨rfl, rfl⟩, ⟨rfl, rfl⟩, ⟨rfl, rfl⟩, rfl, rfl⟩

/-- Settles O4: `storeAccum` at the address of each rule. -/
theorem accumulatorStores : Obligations.AccumulatorStores := by
  intro a n s
  rw [← highPage_eq, ← highPage_eq]
  exact ⟨⟨rfl, rfl⟩, ⟨rfl, rfl⟩, ⟨rfl, rfl⟩, ⟨rfl, rfl⟩, rfl, rfl⟩

@[simp] theorem State.memWrite_hl (s : State) (a : Word) (v : Byte) : (s.memWrite a v).hl = s.hl := by simp [State.hl]

/-- A store of A and the step of HL: a bus write keeps HL, so the step is of the old one. -/
theorem storeAccumStep_eq (delta : Word) (s : State) :
    storeAccumStep delta s = done 8 ((s.memWrite s.hl s.a).setHL (s.hl + delta)) := by
  simp [storeAccumStep]

/-- Settles O5: the access at HL, then HL set to the sum with 1 or with -1. -/
theorem accumulatorStepping : Obligations.AccumulatorStepping := by
  intro s
  rw [BitVec.sub_eq_add_neg]
  exact ⟨⟨rfl, rfl⟩, ⟨rfl, rfl⟩, ⟨rfl, storeAccumStep_eq 1 s⟩, rfl, storeAccumStep_eq (-1) s⟩

/-! ### Pairs and the stack pointer -/

/-- Settles O6: the encoding of each pair's load, and the two halves of each pair. -/
theorem pairLoads : Obligations.PairLoads := by
  intro p n s
  exact ⟨encode_ldR16 p n, rfl, rfl, rfl, rfl, rfl, rfl⟩

/-- Settles O7: the two bus writes of `storeSP`. -/
theorem storeStackPointer : Obligations.StoreStackPointer := fun _ _ => ⟨rfl, rfl⟩

/-! ### The stack -/

/-- Settles O8: the halves of the pair's value are its two registers. -/
theorem pushPairs : Obligations.PushPairs := by
  intro p s hi lo hhalves
  have hpair : s.reg16Stk p = wordOf hi lo := by
    cases p <;> obtain ⟨rfl, rfl⟩ := hhalves <;> rfl
  refine ⟨encode_push p, ?_⟩
  rw [exec_push, pushPair, State.push16_eq, hpair, hiByte_wordOf, loByte_wordOf]
  rfl

/-- Settles O9: the halves of the value popped are the two bytes read. -/
theorem popPairs : Obligations.PopPairs := by
  intro p s
  have hhigh : hiByte s.popValue = s.memRead (s.sp + 1) := hiByte_wordOf _ _
  have hlow : loByte s.popValue = s.memRead s.sp := loByte_wordOf _ _
  rw [← hhigh, ← hlow]
  exact ⟨encode_pop p, rfl, rfl, rfl, rfl⟩

end Sys2Proof.Machine

/-! ## PROOFS: Inverse operations: a pop after a push, a difference after a sum, and the rotates against each other. -/

namespace Sys2Proof.Machine

/-! ### A pop after a push -/

/-- The word of which F keeps the upper nibble (R26). -/
theorem wordOf_upperNibble (v : Word) : wordOf (hiByte v) (loByte v &&& 0xF0) = v &&& 0xFFF0 := by
  have hkept : hiByte v &&& 0xFF = hiByte v := BitVec.and_allOnes
  calc wordOf (hiByte v) (loByte v &&& 0xF0)
      = wordOf (hiByte v &&& 0xFF) (loByte v &&& 0xF0) := by rw [hkept]
    _ = wordOf (hiByte v) (loByte v) &&& wordOf 0xFF 0xF0 := BitVec.and_append.symm
    _ = v &&& 0xFFF0 := by rw [wordOf_bytes]; rfl

theorem State.reg16Stk_setReg16Stk (s : State) (p : Reg16Stk) (v : Word) :
    (s.setReg16Stk p v).reg16Stk p = if p = .af then v &&& 0xFFF0 else v := by
  cases p with
  | bc | de | hl => exact wordOf_bytes v
  | af => exact wordOf_upperNibble v

theorem State.readsBack_above_rom {s : State} {a : Word} (h : s.readsBack a) : 0x8000 ≤ a.toNat := by
  unfold State.readsBack plainAddr at h
  omega

/-- A store to storage that reads back is read at its own address. -/
theorem State.memRead_memWrite_readsBack (s : State) (a : Word) (v : Byte) (h : s.readsBack a) :
    (s.memWrite a v).memRead a = v := by
  rcases h with hplain | ⟨hen, hlow, hhigh⟩
  · exact s.memRead_memWrite_plain a a v hplain hplain rfl
  · rw [s.memWrite_external a v hlow (by omega), if_pos hen, State.memRead_external _ a hlow (by omega),
      State.setEram_ramEnabled, if_pos hen]
    exact Memory.read_write_same .eram s.eram _ v

/-- A store outside the banking registers does not change which storage reads back. -/
theorem State.readsBack_memWrite {s : State} {b : Word} (a : Word) (v : Byte) (ha : 0x8000 ≤ a.toNat) (h : s.readsBack b) :
    (s.memWrite a v).readsBack b := by
  obtain ⟨-, -, hen, -⟩ := s.memWrite_above_rom a v ha
  unfold State.readsBack at h ⊢
  rwa [hen]

/-- Neighbouring addresses outside ROM are no two names of one byte. -/
theorem echoBase_pred_ne (a : Word) (h : 0x8000 ≤ a.toNat) : echoBase (a - 1) ≠ echoBase a := by
  have hpred : (a - 1).toNat = a.toNat - 1 := by bv_omega
  rw [ne_eq, ← BitVec.toNat_inj, echoBase_toNat, echoBase_toNat, hpred]
  split_ifs <;> omega

/-- A byte stored and then one below it, both to storage that reads back. -/
theorem State.memRead_descending_stores (s : State) (a : Word) (v w : Byte) (ha : s.readsBack a) (hb : s.readsBack (a - 1)) :
    ((s.memWrite a v).memWrite (a - 1) w).memRead a = v ∧ ((s.memWrite a v).memWrite (a - 1) w).memRead (a - 1) = w := by
  have hrom := State.readsBack_above_rom ha
  refine ⟨?_, State.memRead_memWrite_readsBack _ _ w (State.readsBack_memWrite a v hrom hb)⟩
  rw [State.memRead_memWrite_other _ _ _ w (State.readsBack_above_rom hb) (echoBase_pred_ne a hrom)]
  exact s.memRead_memWrite_readsBack a v ha

/-- What is pushed to storage that reads back is popped (R130, R131). -/
theorem State.popValue_push16 (s : State) (v : Word) (hhi : s.readsBack (s.sp - 1)) (hlo : s.readsBack (s.sp - 2)) :
    (s.push16 v).popValue = v := by
  have hbelow : s.sp - 2 = s.sp - 1 - 1 := by bv_omega
  have habove : s.sp - 1 - 1 + 1 = s.sp - 1 := by bv_omega
  obtain ⟨hhigh, hlow⟩ := s.memRead_descending_stores (s.sp - 1) (hiByte v) (loByte v) hhi (hbelow ▸ hlo)
  rw [s.push16_eq, hbelow]
  refine Eq.trans (congrArg₂ wordOf ?_ hlow) (wordOf_bytes v)
  rw [habove]
  exact hhigh

theorem done_popValue {c : Nat} {u t : State} (h : done c u = .next t) : t.popValue = u.popValue := by cases h; rfl

theorem done_sp {c : Nat} {u t : State} (h : done c u = .next t) : t.sp = u.sp := by cases h; rfl

theorem exec_push_result {p : Reg16Stk} {s t : State} (hhi : s.readsBack (s.sp - 1)) (hlo : s.readsBack (s.sp - 2))
    (h : exec (.push p) s = .next t) : t.popValue = s.reg16Stk p ∧ t.sp = s.sp - 2 := by
  rw [exec_push] at h
  exact ⟨(done_popValue h).trans (s.popValue_push16 _ hhi hlo), by rw [done_sp h, s.push16_eq]⟩

theorem exec_pop_result {p : Reg16Stk} {s t : State} (h : exec (.pop p) s = .next t) :
    t.reg16Stk p = (if p = .af then s.popValue &&& 0xFFF0 else s.popValue) ∧ t.sp = s.sp + 2 := by
  rw [exec_pop] at h
  cases h
  exact ⟨State.reg16Stk_setReg16Stk _ p _, State.setReg16Stk_sp _ p _⟩

/-! ### Sums and differences -/

theorem add8_result (a b : Byte) : (add8 a b false).1 = a + b := by
  apply BitVec.eq_of_toNat_eq
  simp [add8]

theorem sub8_result (a b : Byte) : (sub8 a b false).1 = a - b := by
  apply BitVec.eq_of_toNat_eq
  have hdiff : (sub8 a b false).1.toNat = (((a.toNat : Int) - b.toNat) % 256).toNat := by simp [sub8]
  rw [hdiff]
  bv_omega

/-! ### Rotates -/

theorem rotate_rrc_rlc (v : Byte) (c c' : Bool) : (rotate .rrc (rotate .rlc v c).1 c').1 = v := by
  ext k hk
  interval_cases k <;> simp [rotate]

theorem rotate_swap_swap (v : Byte) (c c' : Bool) : (rotate .swap (rotate .swap v c).1 c').1 = v := by
  ext k hk
  interval_cases k <;> simp [rotate]

theorem rotateA_a {op : RotOp} {s t : State} (h : rotateA op s = .next t) : t.a = (rotate op s.a s.flags.c).1 := by cases h; rfl

theorem exec_rot_reg8 {op : RotOp} {r : Reg8} {s t : State} (h : exec (.rot op (.reg r)) s = .next t) :
    t.reg8 r = (rotate op (s.reg8 r) s.flags.c).1 := by
  rw [exec_rot] at h
  cases h
  cases r <;> rfl

/-- Settles O41: what the second operation gives is a function of what the first one left, and undoes it. -/
theorem inverseOperations : Obligations.InverseOperations := by
  refine ⟨fun p q s t u hhi hlo ht hu => ?_, fun n s t u ht hu => ?_, fun s t u ht hu => ?_,
    fun r s t u => ⟨fun ht hu => ?_, fun ht hu => ?_⟩⟩
  · obtain ⟨hvalue, hpushed⟩ := exec_push_result hhi hlo ht
    obtain ⟨hpair, hpopped⟩ := exec_pop_result hu
    exact ⟨by rw [hpair, hvalue], by rw [hpopped, hpushed, BitVec.sub_add_cancel]⟩
  · have hsum : t.a = s.a + n := by cases ht; exact add8_result s.a n
    have hdiff : u.a = t.a - n := by cases hu; exact sub8_result t.a n
    rw [hdiff, hsum, BitVec.add_sub_cancel]
  · rw [rotateA_a hu, rotateA_a ht, rotate_rrc_rlc]
  · rw [exec_rot_reg8 hu, exec_rot_reg8 ht, rotate_rrc_rlc]
  · rw [exec_rot_reg8 hu, exec_rot_reg8 ht, rotate_swap_swap]

end Sys2Proof.Machine

/-! ## PROOFS: 8-bit arithmetic and logic: the arms of `exec` in the terms of the rules, by the operand, the flag byte and the
result of each operation. -/

namespace Sys2Proof.Machine

/-! ### The end of an operation that writes the flags -/

theorem Flags.toByte_eq_flagByte (fl : Flags) : fl.toByte = flagByte fl.z fl.n fl.h fl.c := by
  obtain ⟨z, n, h, c⟩ := fl
  revert z n h c; decide

theorem done_setFlags (cycles : Nat) (s : State) (fl : Flags) :
    done cycles (s.setFlags fl) = .next { s with f := flagByte fl.z fl.n fl.h fl.c, stepCycles := cycles } := by
  rw [← fl.toByte_eq_flagByte]; rfl

/-! ### The accumulator operations -/

theorem encode_alu (op : AluOp) (src : AluSrc) : encode (.alu op src) = aluEncoding op src := by
  rcases src with (⟨⟨⟩⟩ | _) | _ <;> cases op <;> rfl

/-- R185's operand forms are the model's operand and its cycle count. -/
theorem State.aluOperand_of_is {s : State} {src : AluSrc} {v : Byte} {cycles : Nat} (h : s.aluOperandIs src v cycles) :
    s.aluOperand src = v ∧ aluCycles src = cycles := by
  obtain ⟨r, rfl, rfl, rfl⟩ | ⟨rfl, rfl, rfl⟩ | ⟨rfl, rfl⟩ := h <;> exact ⟨rfl, rfl⟩

section
variable {s : State} {src : AluSrc} {v : Byte} {cycles : Nat}

/-- ALU[y] on A and an operand of value v, for an operation that writes A (R185). -/
theorem exec_alu_operand (op : AluOp) (hop : op ≠ .cp) (h : s.aluOperandIs src v cycles) :
    exec (.alu op src) s = .next
      { s with
        a := (aluResult op s.a v s.flagC).1, f := (aluResult op s.a v s.flagC).2.toByte, stepCycles := cycles } := by
  obtain ⟨hv, hcycles⟩ := State.aluOperand_of_is h
  rw [exec_alu, ← hv, ← hcycles]
  cases op with
  | cp => exact absurd rfl hop
  | _ => rfl

/-- CP writes the flags of the difference and leaves A (R182). -/
theorem exec_cp_operand (h : s.aluOperandIs src v cycles) :
    exec (.alu .cp src) s = .next { s with f := (sub8 s.a v false).2.toByte, stepCycles := cycles } := by
  obtain ⟨hv, hcycles⟩ := State.aluOperand_of_is h
  rw [exec_alu, ← hv, ← hcycles]
  rfl

end

/-- R181, with the test for a zero result as a proposition. -/
theorem sub8_eq (a b : Byte) (cin : Bool) :
    sub8 a b cin =
      (BitVec.ofInt 8 ((a.toNat : Int) - b.toNat - cin.toNat),
       { z := decide (((a.toNat : Int) - b.toNat - cin.toNat) % 256 = 0), n := true,
         h := decide (a.toNat % 16 < b.toNat % 16 + cin.toNat), c := decide (a.toNat < b.toNat + cin.toNat) }) := by
  simp only [sub8, beq_eq_decide]

theorem sub8_noBorrow (a b : Byte) :
    sub8 a b false =
      (BitVec.ofInt 8 ((a.toNat : Int) - b.toNat),
       { z := decide (((a.toNat : Int) - b.toNat) % 256 = 0), n := true,
         h := decide (a.toNat % 16 < b.toNat % 16), c := decide (a.toNat < b.toNat) }) := by
  simp [sub8_eq]

/-- Settles O10: both are `add8`, with the carry in false or the carry flag. -/
theorem addAndAdc : Obligations.AddAndAdc := by
  intro src v cycles s hsrc
  refine ⟨⟨encode_alu .add src, ?_⟩, encode_alu .adc src, ?_⟩
  · rw [exec_alu_operand .add nofun hsrc, Flags.toByte_eq_flagByte]; rfl
  · rw [exec_alu_operand .adc nofun hsrc, Flags.toByte_eq_flagByte]; rfl

/-- Settles O11: all three are `sub8`, and SUB and CP have no borrow in. -/
theorem subSbcAndCp : Obligations.SubSbcAndCp := by
  intro src v cycles s hsrc
  refine ⟨⟨encode_alu .sub src, ?_⟩, ⟨encode_alu .sbc src, ?_⟩, encode_alu .cp src, ?_⟩
  · rw [exec_alu_operand .sub nofun hsrc, Flags.toByte_eq_flagByte, aluResult, sub8_noBorrow]
  · rw [exec_alu_operand .sbc nofun hsrc, Flags.toByte_eq_flagByte, aluResult, sub8_eq]
  · rw [exec_cp_operand hsrc, Flags.toByte_eq_flagByte, sub8_noBorrow]

/-- Settles O12: `and8` of A and the operand. -/
theorem andAccumulator : Obligations.AndAccumulator := by
  intro src v cycles s hsrc
  refine ⟨encode_alu .and src, ?_⟩
  rw [exec_alu_operand .and nofun hsrc, Flags.toByte_eq_flagByte]; rfl

/-- Settles O13: `xor8` and `or8` of A and the operand. -/
theorem xorAndOr : Obligations.XorAndOr := by
  intro src v cycles s hsrc
  refine ⟨⟨encode_alu .xor src, ?_⟩, encode_alu .or src, ?_⟩
  · rw [exec_alu_operand .xor nofun hsrc, Flags.toByte_eq_flagByte]; rfl
  · rw [exec_alu_operand .or nofun hsrc, Flags.toByte_eq_flagByte]; rfl

/-! ### INC and DEC of a byte -/

theorem encode_inc8 (x : Loc8) : encode (.inc8 x) = [0b00#2 ++ x.index ++ 0b100#3] := by rcases x with ⟨⟨⟩⟩ | _ <;> rfl

theorem encode_dec8 (x : Loc8) : encode (.dec8 x) = [0b00#2 ++ x.index ++ 0b101#3] := by rcases x with ⟨⟨⟩⟩ | _ <;> rfl

/-- A test of the low nibble, as R184 writes it, is a test of the byte's number modulo 16. -/
theorem nibble_beq (v n : Byte) : (v &&& 0x0F == n) = decide (v.toNat % 16 = n.toNat) := by
  rw [beq_eq_decide, decide_eq_decide]
  exact and_nibble_eq_iff v n

theorem exec_inc8_loc (x : Loc8) (s : State) :
    exec (.inc8 x) s = .next
      { s.writeLoc x (s.readLoc x + 1) with
        f := flagByte (decide (s.readLoc x + 1 = 0)) false (decide ((s.readLoc x).toNat % 16 = 0xF)) s.flagC
        stepCycles := locCycles 4 12 x } := by
  rw [exec_inc8, incLoc, done_setFlags, inc8, nibble_beq]; rfl

theorem exec_dec8_loc (x : Loc8) (s : State) :
    exec (.dec8 x) s = .next
      { s.writeLoc x (s.readLoc x - 1) with
        f := flagByte (decide (s.readLoc x - 1 = 0)) true (decide ((s.readLoc x).toNat % 16 = 0x0)) s.flagC
        stepCycles := locCycles 4 12 x } := by
  rw [exec_dec8, decLoc, done_setFlags, dec8, nibble_beq]; rfl

/-- Settles O14: INC and DEC of an r8 operand that is a register. -/
theorem incDecRegister : Obligations.IncDecRegister := by
  intro r s
  exact ⟨⟨encode_inc8 (.reg r), exec_inc8_loc (.reg r) s⟩, encode_dec8 (.reg r), exec_dec8_loc (.reg r) s⟩

/-- Settles O15: INC and DEC of the r8 operand that is the byte at HL. -/
theorem incDecMemory : Obligations.IncDecMemory := by
  rintro v s rfl
  exact ⟨⟨encode_inc8 .mHL, exec_inc8_loc .mHL s⟩, encode_dec8 .mHL, exec_dec8_loc .mHL s⟩

/-! ### DAA, CPL, SCF and CCF -/

/-- R215 after a difference: the two stages are one subtraction. -/
theorem daa_of_difference (a : Byte) (fl : Flags) (hn : fl.n = true) {a1 a2 : Int}
    (h1 : a1 = if fl.c then (a.toNat : Int) - 0x60 else a.toNat) (h2 : a2 = if fl.h then a1 - 0x06 else a1) :
    daa a fl = (BitVec.ofInt 8 a2, ⟨decide (BitVec.ofInt 8 a2 = 0), true, false, fl.c⟩) := by
  have hstages : (a.toNat : Int) - ((if fl.c then 0x60 else 0) + (if fl.h then 0x06 else 0)) = a2 := by
    rw [h2, h1]
    split <;> split <;> omega
  simp only [daa, hn, if_true, hstages, beq_eq_decide]

/-- R215 after a sum: the first stage adds a multiple of 16, so the low nibble that the second stage tests is A's. -/
theorem daa_of_sum (a : Byte) (fl : Flags) (hn : fl.n = false) {c1 : Bool} {a1 a2 : Int}
    (hc : c1 = (fl.c || decide ((a.toNat : Int) > 0x99))) (h1 : a1 = if c1 then (a.toNat : Int) + 0x60 else a.toNat)
    (h2 : a2 = if fl.h || decide (a1 % 16 > 0x09) then a1 + 0x06 else a1) :
    daa a fl = (BitVec.ofInt 8 a2, ⟨decide (BitVec.ofInt 8 a2 = 0), false, false, c1⟩) := by
  have hhigh : (fl.c || decide (a.toNat > 0x99)) = c1 := by
    have hcast : a.toNat > 0x99 ↔ (a.toNat : Int) > 0x99 := by omega
    rw [hc, decide_eq_decide.mpr hcast]
  have hnibble : a1 % 16 > 0x09 ↔ a.toNat % 16 > 0x09 := by
    have hkept : a1 % 16 = (a.toNat : Int) % 16 := by rw [h1]; split <;> omega
    omega
  have hstages : (a.toNat : Int) +
      ((if c1 then 0x60 else 0) + (if fl.h || decide (a.toNat % 16 > 0x09) then 0x06 else 0)) = a2 := by
    simp only [h2, hnibble]
    rw [h1]
    split <;> split <;> omega
  simp only [daa, hn, hhigh, Bool.false_eq_true, if_false, hstages, beq_eq_decide]

/-- Settles O16: the corrections after a difference and after a sum. -/
theorem decimalAdjust : Obligations.DecimalAdjust := by
  intro s a0 c1 a1 a2
  have hdaa : daa s.a s.flags = (BitVec.ofInt 8 a2, ⟨decide (BitVec.ofInt 8 a2 = 0), s.flagN, false, c1⟩) := by
    cases hn : s.flagN with
    | true =>
      have hc : c1 = s.flagC := by simp only [c1, hn, if_true]
      rw [hc]
      exact daa_of_difference s.a s.flags hn (a1 := a1) (by simp only [a1, hn]; rfl) (by simp only [a2, hn]; rfl)
    | false =>
      exact daa_of_sum s.a s.flags hn (a1 := a1) (by simp only [c1, hn]; rfl) (by simp only [a1, hn]; rfl)
        (by simp only [a2, hn]; rfl)
  refine ⟨rfl, ?_⟩
  change adjustDecimal s = _
  rw [adjustDecimal, done_setFlags, hdaa]

/-- Settles O17: each flag is kept or written as `done_setFlags` puts it in the flag byte. -/
theorem complementAndCarryFlags : Obligations.ComplementAndCarryFlags := by
  intro s
  refine ⟨⟨rfl, ?_⟩, ⟨rfl, done_setFlags 4 s _⟩, rfl, done_setFlags 4 s _⟩
  have hcomplement : s.a ^^^ 0xFF = ~~~s.a := BitVec.xor_allOnes
  rw [← hcomplement]
  exact done_setFlags 4 { s with a := s.a ^^^ 0xFF } _

/-! ### The accumulator rotates -/

theorem rotate_rlc (v : Byte) (c : Bool) : rotate .rlc v c = (v.rotateLeft 1, v.getLsbD 7) :=
  Prod.ext (by ext k hk; interval_cases k <;> simp [rotate]) rfl

theorem rotate_rrc (v : Byte) (c : Bool) : rotate .rrc v c = (v.rotateRight 1, v.getLsbD 0) :=
  Prod.ext (by ext k hk; interval_cases k <;> simp [rotate]) rfl

theorem zeroExtend_ofBool_toNat (c : Bool) : ((BitVec.ofBool c).zeroExtend 8).toNat = c.toNat := by cases c <;> rfl

theorem rotate_rl (v : Byte) (c : Bool) : rotate .rl v c = (BitVec.ofNat 8 (v.toNat * 2 + c.toNat), v.getLsbD 7) := by
  have hshift : (v <<< 1).toNat = 2 ^ 1 * (v.toNat % 128) := by rw [BitVec.toNat_shiftLeft, Nat.shiftLeft_eq]; omega
  have hor : (rotate .rl v c).1.toNat = 2 ^ 1 * (v.toNat % 128) + c.toNat := by
    rw [rotate, BitVec.toNat_or, hshift, zeroExtend_ofBool_toNat]
    exact (Nat.two_pow_add_eq_or_of_lt c.toNat_lt _).symm
  have hc := c.toNat_lt
  exact Prod.ext (BitVec.eq_of_toNat_eq (by rw [hor, BitVec.toNat_ofNat]; omega)) rfl

theorem rotate_rr (v : Byte) (c : Bool) : rotate .rr v c = (BitVec.ofNat 8 (v.toNat / 2 + 128 * c.toNat), v.getLsbD 0) := by
  have hv : v.toNat / 2 < 2 ^ 7 := by have := v.isLt; omega
  have hc := c.toNat_lt
  have hor : (rotate .rr v c).1.toNat = 2 ^ 7 * c.toNat + v.toNat / 2 := by
    have hpushed : ((BitVec.ofBool c).zeroExtend 8 <<< 7).toNat = 2 ^ 7 * c.toNat := by
      rw [BitVec.toNat_shiftLeft, zeroExtend_ofBool_toNat, Nat.shiftLeft_eq]; omega
    rw [rotate, BitVec.toNat_or, hpushed, BitVec.toNat_ushiftRight, Nat.shiftRight_eq_div_pow, Nat.or_comm]
    exact (Nat.two_pow_add_eq_or_of_lt hv _).symm
  exact Prod.ext (BitVec.eq_of_toNat_eq (by rw [hor, BitVec.toNat_ofNat]; omega)) rfl

/-- A rotate of A, by its result and the bit pushed out: Z, N and H are written 0 (R219 to R222, D16). -/
theorem rotateA_eq {op : RotOp} {s : State} {r : Byte} {c : Bool} (h : rotate op s.a s.flagC = (r, c)) :
    rotateA op s = .next { s with a := r, f := flagByte false false false c, stepCycles := 4 } := by
  have hrotate : rotate op s.a s.flags.c = (r, c) := h
  rw [rotateA, done_setFlags, hrotate]; rfl

/-- Settles O18: the four rotates of A, each with the bit it pushes out. -/
theorem accumulatorRotates : Obligations.AccumulatorRotates := by
  intro s
  exact ⟨⟨rfl, rotateA_eq (rotate_rlc s.a s.flagC)⟩, ⟨rfl, rotateA_eq (rotate_rrc s.a s.flagC)⟩,
    ⟨rfl, rotateA_eq (rotate_rl s.a s.flagC)⟩, rfl, rotateA_eq (rotate_rr s.a s.flagC)⟩

end Sys2Proof.Machine

/-! ## PROOFS: 16-bit arithmetic: the sum that each operation writes, in the numbers of the rules. -/

namespace Sys2Proof.Machine

/-! ### Encodings -/

theorem encode_addHL (p : Reg16) : encode (.addHL p) = [0b00#2 ++ p.index ++ 0b1001#4] := by cases p <;> rfl

theorem encode_inc16 (p : Reg16) : encode (.inc16 p) = [0b00#2 ++ p.index ++ 0b0011#4] := by cases p <;> rfl

theorem encode_dec16 (p : Reg16) : encode (.dec16 p) = [0b00#2 ++ p.index ++ 0b1011#4] := by cases p <;> rfl

/-! ### Sums modulo 2^16 -/

/-- A sum modulo 2^16 is the sum of integers narrowed to a word. -/
theorem add_ofInt_eq (v : Word) (n : Int) : v + BitVec.ofInt 16 n = BitVec.ofInt 16 (v.toNat + n) := by
  rw [BitVec.ofInt_add, BitVec.ofInt_natCast, BitVec.ofNat_toNat, BitVec.setWidth_eq]

/-- The word that R233 and R234 write: SP and the offset in two's complement, modulo 2^16. -/
theorem addSigned_sum (sp : Word) (e : Byte) : (addSigned sp e).1 = BitVec.ofInt 16 ((sp.toNat : Int) + e.toInt) :=
  add_ofInt_eq sp e.toInt

/-- Settles O21: both write the word of `addSigned` and its flags. -/
theorem signedStackSums : Obligations.SignedStackSums := by
  intro e s sum fl
  have hsum : (addSigned s.sp e).1 = sum := addSigned_sum s.sp e
  refine ⟨⟨rfl, ?_⟩, rfl, ?_⟩
  · change addSPSigned e s = _
    rw [addSPSigned, done_setFlags, hsum]; rfl
  · change loadHLSPSigned e s = _
    rw [loadHLSPSigned, done_setFlags, hsum]; rfl

/-- Settles O19: the pair's value added to HL by `add16`, which keeps Z. -/
theorem addPairToHL : Obligations.AddPairToHL := by
  intro p s
  refine ⟨encode_addHL p, ?_⟩
  rw [exec_addHL, addHLPair, done_setFlags]; rfl

/-- Settles O20: the pair set to the sum with 1 or with -1, and F not written. -/
theorem incDecPair : Obligations.IncDecPair := by
  intro p s
  have hinc : s.reg16 p + 1 = BitVec.ofNat 16 ((s.reg16 p).toNat + 1) := by
    rw [BitVec.ofNat_add, BitVec.ofNat_toNat, BitVec.setWidth_eq]; rfl
  have hdec : s.reg16 p - 1 = BitVec.ofInt 16 ((s.reg16 p).toNat - 1) := by
    rw [Int.sub_eq_add_neg, ← add_ofInt_eq]; exact BitVec.sub_eq_add_neg _ 1
  refine ⟨⟨encode_inc16 p, ?_⟩, encode_dec16 p, ?_⟩
  · rw [← hinc]; exact exec_inc16 p s
  · rw [← hdec]; exact exec_dec16 p s

end Sys2Proof.Machine

/-! ## PROOFS: Control transfer: the condition of a conditional form, the target, and the bytes through the stack. -/

namespace Sys2Proof.Machine

/-! ### Encodings -/

theorem encode_jpCond (cc : Cond) (a : Word) :
    encode (.jpCond cc a) = [0b110#3 ++ cc.index ++ 0b010#3, loByte a, hiByte a] := by cases cc <;> rfl

theorem encode_jrCond (cc : Cond) (e : Byte) : encode (.jrCond cc e) = [0b001#3 ++ cc.index ++ 0b000#3, e] := by
  cases cc <;> rfl

theorem encode_callCond (cc : Cond) (a : Word) :
    encode (.callCond cc a) = [0b110#3 ++ cc.index ++ 0b100#3, loByte a, hiByte a] := by cases cc <;> rfl

theorem encode_retCond (cc : Cond) : encode (.retCond cc) = [0b110#3 ++ cc.index ++ 0b000#3] := by cases cc <;> rfl

theorem encode_rst (y : Field3) : encode (.rst y) = [0b11#2 ++ y.index ++ 0b111#3] := by cases y <;> rfl

/-! ### Conditions and targets -/

/-- Bit 1 of cc selects the flag and bit 0 is the value it must have (R110). -/
theorem State.cond_eq_condHolds (s : State) (cc : Cond) : s.cond cc = s.condHolds cc := by
  cases cc with
  | nz => exact (beq_false _).symm
  | z => exact (beq_true _).symm
  | nc => exact (beq_false _).symm
  | c => exact (beq_true _).symm

/-- A conditional form whose two cases end in a next state. -/
theorem ite_cond_next (cc : Cond) (s taken kept : State) :
    (if s.cond cc then .next taken else .next kept : Result) = .next (if s.condHolds cc then taken else kept) := by
  rw [State.cond_eq_condHolds, apply_ite Host.Outcome.next]

/-- RST's target is 8 times its field (R260). -/
theorem rstTarget_eq (y : Field3) : rstTarget y = BitVec.ofNat 16 (y.index.toNat * 8) := by cases y <;> rfl

/-! ### Jumps, calls and returns -/

/-- Settles O22: each form is `jumpTo`, the conditional ones where the condition holds; a sign extension is its integer narrowed
to a word. -/
theorem jumps : Obligations.Jumps := by
  intro a e cc s
  refine ⟨⟨rfl, rfl⟩, ⟨encode_jpCond cc a, ?_⟩, ⟨rfl, rfl⟩, ⟨rfl, rfl⟩, encode_jrCond cc e, ?_⟩
  · rw [exec_jpCond, jumpIf]; exact ite_cond_next cc s _ _
  · rw [exec_jrCond, jumpRelIf]; exact ite_cond_next cc s _ _

/-- A call is the two bus writes of pc's bytes, SP past them, and pc at the target. -/
theorem callTo_eq (cycles : Nat) (t : Word) (s : State) :
    callTo cycles t s = .next
      { (s.memWrite (s.sp - 1) (hiByte s.pc)).memWrite (s.sp - 2) (loByte s.pc) with
        sp := s.sp - 2, pc := t, stepCycles := cycles } := by
  rw [callTo, State.push16_eq]; rfl

/-- Settles O23: each form is `callTo`, the conditional one where the condition holds. -/
theorem callsAndRst : Obligations.CallsAndRst := by
  intro a cc y s pushed
  refine ⟨⟨rfl, callTo_eq 24 a s⟩, ⟨encode_callCond cc a, ?_⟩, encode_rst y, ?_⟩
  · rw [exec_callCond, callIf, callTo_eq]; exact ite_cond_next cc s _ _
  · rw [exec_rst, callTo_eq, rstTarget_eq]; rfl

/-- Settles O24: both forms are `returnTo`, the conditional one where the condition holds. -/
theorem returns : Obligations.Returns := by
  intro cc s popped
  refine ⟨⟨rfl, rfl⟩, encode_retCond cc, ?_⟩
  rw [exec_retCond, returnIf]; exact ite_cond_next cc s _ _

end Sys2Proof.Machine

/-! ## PROOFS: CB-prefixed rotates, shifts and bit operations: the arms of `exec` by the r8 operand, which is a register or the
byte at HL, and the byte that each operation writes back. -/

namespace Sys2Proof.Machine

/-! ### Encodings -/

theorem encode_rot (op : RotOp) (x : Loc8) : encode (.rot op x) = [0xCB, 0b00#2 ++ op.index ++ x.index] := by
  rcases x with ⟨⟨⟩⟩ | _ <;> cases op <;> rfl

theorem encode_bit (b : Field3) (x : Loc8) : encode (.bit b x) = [0xCB, 0b01#2 ++ b.index ++ x.index] := by
  rcases x with ⟨⟨⟩⟩ | _ <;> cases b <;> rfl

theorem encode_res (b : Field3) (x : Loc8) : encode (.res b x) = [0xCB, 0b10#2 ++ b.index ++ x.index] := by
  rcases x with ⟨⟨⟩⟩ | _ <;> cases b <;> rfl

theorem encode_set (b : Field3) (x : Loc8) : encode (.set b x) = [0xCB, 0b11#2 ++ b.index ++ x.index] := by
  rcases x with ⟨⟨⟩⟩ | _ <;> cases b <;> rfl

/-! ### Rotates, shifts and SWAP -/

theorem rotate_sla (v : Byte) (c : Bool) : rotate .sla v c = (BitVec.ofNat 8 (v.toNat * 2), v.getLsbD 7) :=
  Prod.ext (BitVec.eq_of_toNat_eq (by rw [rotate, BitVec.toNat_shiftLeft, Nat.shiftLeft_eq, BitVec.toNat_ofNat])) rfl

/-- SRA keeps bit 7, so it is the arithmetic shift: the signed number halved (R291). -/
theorem rotate_sra (v : Byte) (c : Bool) : rotate .sra v c = (BitVec.ofInt 8 (v.toInt / 2), v.getLsbD 0) := by
  have hshift : v.sshiftRight 1 = BitVec.ofInt 8 (v.toInt / 2) := by rw [BitVec.sshiftRight, Int.shiftRight_eq_div_pow]; rfl
  rw [← hshift]
  exact Prod.ext (by ext k hk; interval_cases k <;> simp [rotate, BitVec.getElem_sshiftRight, BitVec.msb_eq_getLsbD_last]) rfl

theorem rotate_swap (v : Byte) (c : Bool) : rotate .swap v c = (v.rotateLeft 4, false) :=
  Prod.ext (by ext k hk; interval_cases k <;> simp [rotate]) rfl

theorem rotate_srl (v : Byte) (c : Bool) : rotate .srl v c = (BitVec.ofNat 8 (v.toNat / 2), v.getLsbD 0) :=
  Prod.ext (BitVec.eq_of_toNat_eq (by
    rw [rotate, BitVec.toNat_ushiftRight, Nat.shiftRight_eq_div_pow, BitVec.toNat_ofNat]; omega)) rfl

theorem rotate_eq_rotateSpec (op : RotOp) (v : Byte) (c : Bool) : rotate op v c = rotateSpec op v c := by
  cases op with
  | rlc => exact rotate_rlc v c
  | rrc => exact rotate_rrc v c
  | rl => exact rotate_rl v c
  | rr => exact rotate_rr v c
  | sla => exact rotate_sla v c
  | sra => exact rotate_sra v c
  | swap => exact rotate_swap v c
  | srl => exact rotate_srl v c

theorem exec_rot_loc (op : RotOp) (x : Loc8) (s : State) :
    let y := rotateSpec op (s.readLoc x) s.flagC
    exec (.rot op x) s = .next
      { s.writeLoc x y.1 with f := flagByte (decide (y.1 = 0)) false false y.2, stepCycles := locCycles 8 16 x } := by
  rw [exec_rot, rotateLoc, done_setFlags, rotate_eq_rotateSpec, rotFlags, beq_eq_decide]; rfl

/-- Settles O25: the r8 operand a register, and the byte at HL. -/
theorem rotatesAndShifts : Obligations.RotatesAndShifts := by
  intro op r s x m
  exact ⟨⟨encode_rot op (.reg r), exec_rot_loc op (.reg r) s⟩, encode_rot op .mHL, exec_rot_loc op .mHL s⟩

/-! ### BIT, RES and SET -/

theorem fieldNat_eq_index (b : Field3) : fieldNat b = b.index.toNat := by cases b <;> rfl

theorem exec_bit_loc (b : Field3) (x : Loc8) (s : State) :
    exec (.bit b x) s = .next
      { s with
        f := flagByte (!(s.readLoc x).getLsbD b.index.toNat) false true s.flagC, stepCycles := locCycles 8 12 x } := by
  rw [exec_bit, testBit, done_setFlags, fieldNat_eq_index]; rfl

/-- Settles O26: the r8 operand a register, and the byte at HL. -/
theorem bitTest : Obligations.BitTest := by
  intro b r s
  exact ⟨⟨encode_bit b (.reg r), exec_bit_loc b (.reg r) s⟩, encode_bit b .mHL, exec_bit_loc b .mHL s⟩

/-- The mask of a bit number has that bit and no other. -/
theorem getLsbD_bitMask (b : Field3) {k : Nat} (hk : k < 8) : (1#8 <<< fieldNat b).getLsbD k = (k == b.index.toNat) := by
  rw [fieldNat_eq_index]
  interval_cases k <;> cases b <;> rfl

theorem getLsbD_clearBit (v : Byte) (b : Field3) {k : Nat} (hk : k < 8) :
    (v &&& ~~~(1#8 <<< fieldNat b)).getLsbD k = (v.getLsbD k && k != b.index.toNat) := by
  rw [BitVec.getLsbD_and, BitVec.getLsbD_not, getLsbD_bitMask b hk, decide_eq_true hk, Bool.true_and]; rfl

theorem getLsbD_setBit (v : Byte) (b : Field3) {k : Nat} (hk : k < 8) :
    (v ||| (1#8 <<< fieldNat b)).getLsbD k = (v.getLsbD k || k == b.index.toNat) := by
  rw [BitVec.getLsbD_or, getLsbD_bitMask b hk]

/-- Settles O27: the bytes written are the operand without the bit's mask and the operand with it. -/
theorem bitResetAndSet : Obligations.BitResetAndSet := by
  intro b r s
  refine ⟨_, _, _, _, fun k hk => ⟨getLsbD_clearBit (s.reg8 r) b hk, getLsbD_setBit (s.reg8 r) b hk,
    getLsbD_clearBit (s.memRead s.hl) b hk, getLsbD_setBit (s.memRead s.hl) b hk⟩, ?_, ?_, ?_, ?_⟩
  · exact ⟨encode_res b (.reg r), exec_res b (.reg r) s⟩
  · exact ⟨encode_set b (.reg r), exec_set b (.reg r) s⟩
  · exact ⟨encode_res b .mHL, exec_res b .mHL s⟩
  · exact ⟨encode_set b .mHL, exec_set b .mHL s⟩

end Sys2Proof.Machine

/-! ## PROOFS: The first byte of an instruction: the decoder keeps it, and it alone says whether the instruction is recognized. -/

namespace Sys2Proof

open Sys2Proof.Machine

/-! ### The first byte of an instruction -/

/-- The decoder takes as many bytes as the first one demands, and they are the encoding of what it reads. -/
theorem encode_decodeBytes (b0 b1 b2 : Byte) : encode (decodeBytes b0 b1 b2) = [b0, b1, b2].take (instrLength b0) := by
  cases entry : baseEntry b0 <;> simp only [decodeBytes, instrLength, entry]
  case op i => exact (MapWord.op entry).eq_encode.symm
  case imm8 f => exact (MapWord.imm8 entry b1).eq_encode.symm
  case imm16 f => simpa using (MapWord.imm16 entry (wordOf b2 b1)).eq_encode.symm
  case prefixCB => exact (MapWord.cb entry b1).eq_encode.symm

theorem instrLength_pos (b0 : Byte) : 0 < instrLength b0 := by
  unfold instrLength
  split <;> decide

theorem head_of_encode_decodeBytes {b0 b1 b2 b : Byte} {tail : List Byte} (h : encode (decodeBytes b0 b1 b2) = b :: tail) :
    b0 = b := by
  obtain ⟨n, hn⟩ := Nat.exists_eq_succ_of_ne_zero (instrLength_pos b0).ne'
  rw [encode_decodeBytes, hn, List.take_succ_cons] at h
  exact (List.cons.inj h).1

/-! ### The unrecognized bytes -/

/-- The first bytes that R115 lists. -/
def unrecognizedBytes : List Byte :=
  [0xD3#8, 0xDB#8, 0xDD#8, 0xE3#8, 0xE4#8, 0xEB#8, 0xEC#8, 0xED#8, 0xF4#8, 0xFC#8, 0xFD#8]

/-- An unrecognized instruction is one listed byte, which it records (R315). -/
theorem exists_unrecognizedByte {i : Instr} (hi : i.unrecognized = true) :
    ∃ b ∈ unrecognizedBytes, encode i = [b] ∧ ∀ s, exec i s = decodeFault b s := by
  cases i with
  | unrecognized_D3 | unrecognized_DB | unrecognized_DD | unrecognized_E3 | unrecognized_E4 | unrecognized_EB | unrecognized_EC
  | unrecognized_ED | unrecognized_F4 | unrecognized_FC | unrecognized_FD =>
    refine ⟨_, ?_, rfl, fun _ => rfl⟩
    decide
  | _ => cases hi

theorem decodeBytes_unrecognized_iff (b0 b1 b2 : Byte) :
    (decodeBytes b0 b1 b2).unrecognized = true ↔ b0 ∈ unrecognizedBytes := by
  constructor
  · intro h
    obtain ⟨b, hb, henc, -⟩ := exists_unrecognizedByte h
    exact head_of_encode_decodeBytes henc ▸ hb
  · intro h
    fin_cases h <;> rfl

/-- Whether an instruction is recognized depends on its first byte alone. -/
theorem decodeBytes_unrecognized_congr (b0 b1 b2 c1 c2 : Byte) :
    (decodeBytes b0 b1 b2).unrecognized = (decodeBytes b0 c1 c2).unrecognized := by
  rw [Bool.eq_iff_iff, decodeBytes_unrecognized_iff, decodeBytes_unrecognized_iff]

/-- Settles O29: the listed bytes are those of the unrecognized instructions, and each records its own. -/
theorem unrecognizedOpcodes : Obligations.UnrecognizedOpcodes := by
  refine ⟨decodeBytes_unrecognized_iff, fun i s hi => ?_⟩
  obtain ⟨b, -, henc, hexec⟩ := exists_unrecognizedByte hi
  exact ⟨b, henc, hexec s⟩

end Sys2Proof

/-! ## PROOFS: System instructions: their arms of `exec`, the step of a recognized instruction, and the delay of EI. -/

namespace Sys2Proof.Machine

/-! ### The arms of `exec` -/

/-- Settles O28: each is one byte, STOP two, and writes the one field of its rule; RETI is `State.returnFromInterrupt`. -/
theorem systemInstructions : Obligations.SystemInstructions := fun _ _ =>
  ⟨⟨rfl, rfl⟩, ⟨rfl, rfl⟩, ⟨rfl, rfl⟩, ⟨rfl, rfl⟩, ⟨rfl, rfl⟩, rfl, rfl⟩

/-! ### The step of a recognized instruction -/

theorem State.instrAtPc_ne {s : State} {i : Instr} {b : Byte} {tail : List Byte} (hi : encode i = b :: tail)
    (h : s.memRead s.pc ≠ b) : s.instrAtPc ≠ i :=
  fun hat => h (head_of_encode_decodeBytes ((congrArg encode hat).trans hi))

theorem coreStep_of_not_halted {s : State} (h : s.halted = false) : coreStep s = fetchExecute s := by
  simp [coreStep, h]

/-- An instruction that did not fault ends its step with the pending flags resolved. -/
theorem coreStep_of_exec {s t : State} (hrun : s.halted = false) (h : exec s.instrAtPc s.pastInstr = .next t)
    (ht : t.fault = none) : coreStep s = .next (t.resolvePending (s.memRead s.pc)) := by
  obtain ⟨u, hu, hstep⟩ := fetchExecute_eq s
  rw [h] at hu
  cases hu
  rw [coreStep_of_not_halted hrun, hstep, if_pos ht]

/-- A recognized instruction at pc runs without a fault. -/
theorem exec_instrAtPc_live {s : State} (hl : s.live) (hrec : (decodeBytes (s.memRead s.pc) 0 0).unrecognized = false) :
    ∃ t, exec s.instrAtPc s.pastInstr = .next t ∧ t.fault = none := by
  obtain ⟨t, ht⟩ := exec_next s.instrAtPc s.pastInstr
  have hi : s.instrAtPc.unrecognized = false := (decodeBytes_unrecognized_congr _ _ _ _ _).trans hrec
  exact ⟨t, ht, ((exec_controlFrame _ _ _ ht).fault hi).trans hl⟩

/-! ### The pending flags -/

/-- EI resolves after DI, so where both are pending `ime` ends set (R345). -/
theorem State.resolvePending_ime (s : State) (op : Byte) :
    (s.resolvePending op).ime =
      if s.eiPending = true ∧ op ≠ 0xFB then true else if s.diPending = true ∧ op ≠ 0xF3 then false else s.ime := by
  simp only [State.resolvePending]
  split_ifs <;> simp_all

/-- After an EI only a pending DI resolves. -/
theorem State.resolvePending_after_ei {s : State} (h : s.diPending = false) : s.resolvePending 0xFB = s := by
  simp [State.resolvePending, h]

/-! ### An iteration with `ime` 0 -/

theorem State.poll_of_ime_false {s : State} (h : s.ime = false) : s.poll = s := by
  simp [State.poll, h]

theorem State.settle_control_of_ime_false {s : State} (ans : RenderAnswer) (h : s.ime = false) :
    (s.settle ans).control = s.control := by
  rw [State.settle, State.poll_of_ime_false (by simpa using h)]
  simp [State.control]

/-- With `ime` 0 what follows a step services nothing, so it writes no control field. -/
theorem State.afterStep_control_of_ime_false {s : State} (hl : s.fault = none) (h : s.ime = false) :
    s.afterStep.control = s.control := by
  rw [afterStep_live s hl, State.settle_control_of_ime_false _ (by simpa using h)]
  simp [State.control]

/-! ### EI and the step after it -/

theorem coreStep_ei {s : State} (hl : s.live) (hrun : s.halted = false) (hdi : s.diPending = false)
    (hop : s.memRead s.pc = 0xFB) : coreStep s = .next { s with pc := s.pc + 1, eiPending := true, stepCycles := 4 } := by
  have hexec : exec s.instrAtPc s.pastInstr = .next { s with pc := s.pc + 1, eiPending := true, stepCycles := 4 } := by
    rw [State.instrAtPc, State.pastInstr, hop]; rfl
  rw [coreStep_of_exec hrun hexec hl, hop]
  exact congrArg Host.Outcome.next (State.resolvePending_after_ei hdi)

/-- The iteration of an EI with `ime` 0. -/
theorem step_ei_of_ime_false {s : State} (hl : s.live) (hrun : s.halted = false) (hdi : s.diPending = false)
    (hop : s.memRead s.pc = 0xFB) (hime : s.ime = false) :
    ∃ u, step s = .next u ∧ u.control = { s.control with pc := s.pc + 1, eiPending := true } := by
  rcases step_cases s with ⟨r, hr, -⟩ | ⟨-, t, ht, hstep⟩
  · rw [hl] at hr; cases hr
  · rw [coreStep_ei hl hrun hdi hop] at ht
    cases ht
    exact ⟨_, hstep, State.afterStep_control_of_ime_false hl hime⟩

/-- A recognized instruction other than EI runs with the old `ime` and ends the delay of a pending EI. -/
theorem coreStep_resolves_ei {s : State} (hl : s.live) (hrun : s.halted = false) (hei : s.eiPending = true)
    (hop : s.memRead s.pc ≠ 0xFB) (hrec : (decodeBytes (s.memRead s.pc) 0 0).unrecognized = false) :
    ∃ t u, exec s.instrAtPc s.pastInstr = .next t ∧ (s.memRead s.pc ≠ 0xD9 → t.ime = s.ime) ∧
      coreStep s = .next u ∧ u.ime = true ∧ u.eiPending = false := by
  obtain ⟨t, ht, hlive⟩ := exec_instrAtPc_live hl hrec
  have hframe := exec_controlFrame _ _ _ ht
  have htei : t.eiPending = true := (hframe.eiPending (State.instrAtPc_ne rfl hop)).trans hei
  refine ⟨t, _, ht, fun hreti => hframe.ime (State.instrAtPc_ne rfl hreti), coreStep_of_exec hrun ht hlive, ?_, ?_⟩
  · rw [State.resolvePending_ime, if_pos ⟨htei, hop⟩]
  · rw [State.resolvePending_eiPending, beq_false_of_ne hop, Bool.and_false]

/-- Settles O52: EI's own step resolves nothing, and the next one resolves it after its instruction. -/
theorem enableInterruptDelay : Obligations.EnableInterruptDelay := by
  refine ⟨rfl, fun _ => rfl, fun s hl hrun hdi hop => ⟨coreStep_ei hl hrun hdi hop, fun hime => ?_⟩,
    fun s => coreStep_resolves_ei⟩
  obtain ⟨u, hu, hcontrol⟩ := step_ei_of_ime_false hl hrun hdi hop hime
  exact ⟨u, hu, (congrArg Control.ime hcontrol).trans hime, congrArg Control.eiPending hcontrol, congrArg Control.pc hcontrol⟩

end Sys2Proof.Machine

/-! ## PROOFS: The timer unit, the poll and the service of an interrupt, and the key ports. -/

namespace Sys2Proof.Machine

/-! ### The timer unit (R335 to R337) -/

theorem State.tickDivider_eq (s : State) (c : Nat) :
    s.tickDivider c = { s with divCounter := BitVec.ofNat 16 (s.divCounter.toNat + c) } := by
  simp [State.tickDivider, BitVec.ofNat_add]

theorem State.tickTimer_stopped {s : State} (c : Nat) (hoff : (s.winByte 0xFF07).getLsbD 2 = false) : s.tickTimer c = s :=
  if_neg (Bool.not_eq_true _ ▸ hoff)

theorem State.tickTimer_counting {s : State} (c : Nat) (hon : (s.winByte 0xFF07).getLsbD 2 = true)
    (hcount : s.timerCounter - c > 0) : s.tickTimer c = { s with timerCounter := s.timerCounter - c } :=
  (if_pos hon).trans (if_neg (not_le.mpr hcount))

/-- At zero or below the countdown starts again and TIMA goes up, or from 0xFF to TMA with a timer request. -/
theorem State.tickTimer_elapsed {s : State} (c : Nat) (hon : (s.winByte 0xFF07).getLsbD 2 = true)
    (hcount : s.timerCounter - c ≤ 0) :
    s.tickTimer c =
      (let reloaded : State := { s with timerCounter := timerPeriod (s.winByte 0xFF07) }
       if s.winByte 0xFF05 = 0xFF then (reloaded.setWin 0xFF05 (s.winByte 0xFF06)).request .timer
       else reloaded.setWin 0xFF05 (s.winByte 0xFF05 + 1)) :=
  (if_pos hon).trans (if_pos hcount)

/-- Settles O49: the divider's sum, then the timer's case. -/
theorem timerTick : Obligations.TimerTick := by
  intro s c ticked period
  have htick : s.tick c = ticked.tickTimer c := congrArg (State.tickTimer · c) (s.tickDivider_eq c)
  have hperiod : timerPeriod (s.winByte 0xFF07) = period := timerPeriod_eq _
  rw [htick, ← hperiod]
  refine ⟨State.tickTimer_stopped (s := ticked) c, State.tickTimer_counting (s := ticked) c,
    fun hon hcount htima => ?_, fun hon hcount htima => ?_⟩
  · exact (State.tickTimer_elapsed (s := ticked) c hon hcount).trans (if_neg htima)
  · have hif : (s.setWin 0xFF05 (s.winByte 0xFF06)).winByte 0xFF0F = s.winByte 0xFF0F := by
      rw [State.winByte_setWin, if_neg (by decide)]
    rw [← hif]
    exact (State.tickTimer_elapsed (s := ticked) c hon hcount).trans (if_pos htima)

/-! ### The interrupt sources (R341) -/

/-- The source's number: its bit in IF and IE, and its place among the vectors (R341). -/
def IrqSource.number : IrqSource → Nat
  | .vblank => 0
  | .lcdStat => 1
  | .timer => 2
  | .serial => 3
  | .joypad => 4

theorem IrqSource.mask_eq (n : IrqSource) : n.mask = 1#8 <<< n.number := by cases n <;> rfl

theorem IrqSource.vector_eq (n : IrqSource) : n.vector = BitVec.ofNat 16 (0x0040 + 8 * n.number) := by cases n <;> rfl

/-- A mask is the mask of one bit only. -/
theorem IrqSource.number_of_mask {n : IrqSource} {k : Nat} (h : n.mask = 1#8 <<< k) : k = n.number := by
  have hbit : (1#8 <<< k).getLsbD n.number = true := by rw [← h]; cases n <;> rfl
  simp at hbit
  omega

/-! ### The poll (R351) -/

/-- The source found is the one of the lowest bit set. -/
theorem lowestSource_spec {p : Byte} (h : p &&& 0x1F ≠ 0) :
    ∃ n : IrqSource, lowestSource p = some n ∧ p.getLsbD n.number = true ∧ ∀ j, j < n.number → p.getLsbD j = false := by
  unfold lowestSource
  split_ifs with h0 h1 h2 h3 h4
  · exact ⟨.vblank, rfl, h0, nofun⟩
  · exact ⟨.lcdStat, rfl, h1, fun j (hj : j < 1) => by interval_cases j; exact eq_false_of_ne_true ‹_›⟩
  · exact ⟨.timer, rfl, h2, fun j (hj : j < 2) => by interval_cases j <;> exact eq_false_of_ne_true ‹_›⟩
  · exact ⟨.serial, rfl, h3, fun j (hj : j < 3) => by interval_cases j <;> exact eq_false_of_ne_true ‹_›⟩
  · exact ⟨.joypad, rfl, h4, fun j (hj : j < 4) => by interval_cases j <;> exact eq_false_of_ne_true ‹_›⟩
  · refine absurd (BitVec.eq_of_getLsbD_eq fun k hk => ?_) h
    interval_cases k <;> simp_all

theorem State.poll_of_lowestSource {s : State} {n : IrqSource} (hime : s.ime = true) (hn : lowestSource s.pendingMask = some n) :
    s.poll = s.service n := by
  simp [State.poll, hime, hn]

/-- Nothing is pending when the masked value is 0. -/
theorem State.poll_of_pendingMask_zero {s : State} (h : s.pendingMask = 0) : s.poll = s := by
  have hnone : lowestSource s.pendingMask = none := by rw [h]; rfl
  simp [State.poll, hnone]

/-- Settles O50: with `ime` set the poll takes the lowest source, whose bit its mask is. -/
theorem pollServicesLowest : Obligations.PollServicesLowest := by
  intro s pending
  constructor
  · intro hime hne
    have hmasked : pending &&& 0x1F ≠ 0 := by rwa [BitVec.and_assoc, BitVec.and_self]
    obtain ⟨n, hn, hbit, hlow⟩ := lowestSource_spec hmasked
    exact ⟨n.number, n, n.mask_eq, hbit, hlow, State.poll_of_lowestSource hime hn⟩
  · rintro (hime | hzero)
    · exact State.poll_of_ime_false hime
    · exact State.poll_of_pendingMask_zero hzero

/-! ### Taking an interrupt (R340, R352) -/

theorem State.handleBanking_setImeHaltedScript (s : State) (ime halted : Bool) (script : List RenderAnswer) (a : Word) (v : Byte) :
    ({ s with ime := ime, halted := halted, renderScript := script } : State).handleBanking a v =
      { s.handleBanking a v with ime := ime, halted := halted, renderScript := script } := by
  cases s
  simp only [State.handleBanking, State.ramEnableWrite, State.lowBankSelect, State.highBankSelect, State.modeSelect]
  cases ‹Mbc› <;> split_ifs <;> rfl

/-- A bus write reads neither `ime` nor `halted` nor RENDER's script. -/
theorem State.memWrite_setImeHaltedScript (s : State) (ime halted : Bool) (script : List RenderAnswer) (a : Word) (v : Byte) :
    ({ s with ime := ime, halted := halted, renderScript := script } : State).memWrite a v =
      { s.memWrite a v with ime := ime, halted := halted, renderScript := script } := by
  rcases addr_cases a with h | ⟨h, h'⟩ | ⟨h, h'⟩ | ⟨h, h'⟩ | rfl | rfl | rfl | ⟨h, he, ht⟩
  · rw [State.memWrite_banking _ a v h, State.memWrite_banking _ a v h, State.handleBanking_setImeHaltedScript]
  · rw [State.memWrite_external _ a v h h', State.memWrite_external _ a v h h']
    by_cases hr : s.ramEnabled = true
    · rw [if_pos hr, if_pos hr]; rfl
    · rw [if_neg hr, if_neg hr]
  · rw [State.memWrite_echo _ a v h h', State.memWrite_echo _ a v h h']; rfl
  · rw [State.memWrite_restricted _ a v h h', State.memWrite_restricted _ a v h h']
  · rfl
  · rw [State.memWrite_tac, State.memWrite_tac, State.tacWrite_eq, State.tacWrite_eq]; rfl
  · rfl
  · rw [State.memWrite_window _ a v h he ht, State.memWrite_window _ a v h he ht]; rfl

/-- The two bus writes of taking an interrupt, after the request bit is cleared, and the CPU fields (R352). -/
theorem State.service_eq (s : State) (n : IrqSource) :
    s.service n =
      (let cleared := s.setWin addrIF (s.winByte addrIF &&& ~~~n.mask)
       { (cleared.memWrite (s.sp - 1) (hiByte s.pc)).memWrite (s.sp - 2) (loByte s.pc) with
         ime := false, halted := false, sp := s.sp - 2, pc := n.vector }) := by
  have hwrite (a : Word) (v : Byte) (u : State) : ({ u with ime := false, halted := false } : State).memWrite a v =
      { u.memWrite a v with ime := false, halted := false } := by
    simpa using u.memWrite_setImeHaltedScript false false u.renderScript a v
  simp only [State.service, State.push16_eq, hwrite]
  rfl

/-- Settles O51: the source's mask names its bit, and the bit its vector. -/
theorem takingAnInterrupt : Obligations.TakingAnInterrupt := by
  intro s n k hk
  have hvector : n.vector = BitVec.ofNat 16 (0x0040 + 8 * k) := by rw [IrqSource.number_of_mask hk, n.vector_eq]
  rw [← hk, ← hvector]
  exact ⟨s.service_eq n, rfl, fun _ _ => rfl⟩

/-! ### The key ports (R346 to R348, D27) -/

/-- The key of code j: bit j of the latch, and its class by the half of the codes (R346). -/
theorem Key.mask_and_selectBit {k : Key} {j : Nat} (h : [Key.right, .left, .up, .down, .a, .b, .select, .start][j]? = some k) :
    j < 8 ∧ k.mask = 1#8 <<< j ∧ k.selectBit = if j < 4 then 4 else 5 := by
  have hj : j < 8 := (List.getElem?_eq_some_iff.mp h).1
  refine ⟨hj, ?_⟩
  interval_cases j <;> cases h <;> decide

theorem and_bit_ne_zero (v : Byte) {j : Nat} (hj : j < 8) : (v &&& 1#8 <<< j != 0) = v.getLsbD j := by
  rw [← BitVec.twoPow_eq, BitVec.and_twoPow]
  cases v.getLsbD j
  · rfl
  · interval_cases j <;> rfl

/-- Settles O58: the key's mask is its bit, and its class the bit of P1. -/
theorem keyPorts : Obligations.KeyPorts := by
  intro s k j h
  obtain ⟨hj, hmask, hselect⟩ := Key.mask_and_selectBit h
  constructor
  · simp only [State.keyPressed, hmask, hselect, and_bit_ne_zero _ hj, Bool.and_eq_true, Bool.not_eq_true']
    rfl
  · rw [State.keyReleased, hmask]

end Sys2Proof.Machine

/-! ## PROOFS: The step of R359 and R360: the instruction at pc, what follows it, the halted core, the delay of DI, and the fault. -/

namespace Sys2Proof.Machine

/-! ### The instruction at pc (R100) -/

/-- Where a word of the opcode maps stands at pc, the decoder reads its instruction there, and pc goes past its bytes. -/
theorem State.atPc_of_mapWord {word : List Byte} {i : Instr} (hw : MapWord word i) {s : State}
    (hat : ∀ k (h : k < word.length), s.memRead (s.pc + BitVec.ofNat 16 k) = word[k]) :
    s.memRead s.pc = word.headD 0 ∧ s.instrAtPc = i ∧ s.pastInstr = { s with pc := s.pc + BitVec.ofNat 16 word.length } := by
  have at0 (h : 0 < word.length) : s.memRead s.pc = word[0] := by simpa using hat 0 h
  unfold State.instrAtPc State.pastInstr
  cases hw with
  | op entry =>
    rw [at0 (Nat.succ_pos _)]
    simp [decodeBytes, instrLength, entry]
  | imm8 entry n | cb entry n =>
    have at1 : s.memRead (s.pc + 1) = n := hat 1 (by simp)
    rw [at0 (Nat.succ_pos _), at1]
    simp [decodeBytes, instrLength, entry]
  | imm16 entry w =>
    have at1 : s.memRead (s.pc + 1) = loByte w := hat 1 (by simp)
    have at2 : s.memRead (s.pc + 2) = hiByte w := hat 2 (by simp)
    rw [at0 (Nat.succ_pos _), at1, at2]
    simp [decodeBytes, instrLength, entry]

/-! ### What follows the core's step (R360) -/

@[simp] theorem State.poll_frameCycles (s : State) : s.poll.frameCycles = s.frameCycles := by
  rcases s.poll_cases with h | ⟨n, -, -, h⟩ <;> simp [h]

/-- The core's step leaves the frame's cycle count and RENDER's script alone. -/
theorem coreStep_hostFields {s t : State} (h : coreStep s = .next t) :
    t.frameCycles = s.frameCycles ∧ t.renderScript = s.renderScript := by
  rcases coreStep_cases s with ⟨-, -, hwait⟩ | ⟨-, hrun⟩
  · rw [hwait] at h
    cases h
    exact ⟨rfl, rfl⟩
  · obtain ⟨u, hu, hstep⟩ := fetchExecute_eq { s with halted := false }
    obtain ⟨-, -, hcycles, hscript⟩ := exec_hostFields _ _ _ hu
    rw [hrun, hstep] at h
    cases h
    split <;> exact ⟨by simpa using hcycles, by simpa using hscript⟩

theorem step_eq_afterStep {s t : State} (hl : s.live) (h : coreStep s = .next t) : step s = .next t.afterStep := by
  simp only [step, iterate, h, show s.fault = none from hl]

/-- An iteration whose step did not fault: the tick, RENDER's requests, the poll, and the frame's cycle count. -/
theorem step_of_coreStep {s t : State} (hl : s.live) (h : coreStep s = .next t) (ht : t.fault = none) :
    step s = .next
      { (((t.tick t.stepCycles).dropAnswer).applyAnswer s.nextAnswer).poll with frameCycles := s.frameCycles + t.stepCycles } := by
  obtain ⟨hcycles, hscript⟩ := coreStep_hostFields h
  have hanswer : t.nextAnswer = s.nextAnswer := congrArg (List.headD · _) hscript
  rw [step_eq_afterStep hl h, afterStep_live t ht, State.settle, hanswer]
  simp [hcycles]

/-- An iteration whose step faulted ends with it (R331). -/
theorem step_of_coreStep_fault {s t : State} (hl : s.live) (h : coreStep s = .next t) (ht : t.fault ≠ none) :
    step s = .next t := by
  obtain ⟨r, hr⟩ := Option.ne_none_iff_exists'.mp ht
  rw [step_eq_afterStep hl h, State.afterStep, hr]

/-- Settles O31: the bytes at pc are a word of the opcode maps, and a recognized instruction does not fault. -/
theorem stepRunsDecodedInstruction : Obligations.StepRunsDecodedInstruction := by
  intro i s hl hrun hwf hat
  obtain ⟨hop, hinstr, hpast⟩ := State.atPc_of_mapWord (mapWord_encode i) hat
  obtain ⟨t, ht⟩ := exec_next i { s with pc := s.pc + BitVec.ofNat 16 (encode i).length }
  have hlive : t.fault = none := ((exec_controlFrame _ _ _ ht).fault (by simpa [Instr.wellFormed] using hwf)).trans hl
  have hcore : coreStep s = .next (t.resolvePending ((encode i).headD 0)) := by
    rw [← hop]
    exact coreStep_of_exec hrun (by rw [hinstr, hpast]; exact ht) hlive
  refine ⟨t, ht, hlive, ?_⟩
  simpa using step_of_coreStep hl hcore (by simpa using hlive)

/-! ### An unrecognized byte at pc (R315, R331) -/

theorem coreStep_unrecognized {s : State} (hrun : s.halted = false)
    (hbyte : (decodeBytes (s.memRead s.pc) 0 0).unrecognized = true) :
    coreStep s = .next { s with pc := s.pc + 1, fault := some { pc := s.pc, byte := s.memRead s.pc } } := by
  have hi : s.instrAtPc.unrecognized = true := (decodeBytes_unrecognized_congr _ _ _ _ _).trans hbyte
  obtain ⟨b, -, henc, hexec⟩ := exists_unrecognizedByte hi
  have hb : s.memRead s.pc = b := head_of_encode_decodeBytes henc
  have hpast : s.pastInstr = { s with pc := s.pc + 1 } := by
    have hlen := congrArg List.length ((encode_decodeBytes _ _ _).symm.trans henc)
    simp only [List.length_take, List.length_cons, List.length_nil] at hlen
    have hone : instrLength (s.memRead s.pc) = 1 := by omega
    rw [State.pastInstr, hone]
    rfl
  obtain ⟨t, ht, hstep⟩ := fetchExecute_eq s
  rw [hexec, hpast, decodeFault] at ht
  cases ht
  rw [coreStep_of_not_halted hrun, hstep, hb]
  simp

/-- Settles O55: the faulting step is the core's step alone, and a fault ends the run. -/
theorem faultEndsTheRun : Obligations.FaultEndsTheRun := by
  refine ⟨fun s hl hrun hbyte => step_of_coreStep_fault hl (coreStep_unrecognized hrun hbyte) nofun, fun s r hr => ?_⟩
  simp [step, iterate, hr]

/-! ### The halted core (R361, D24) -/

theorem coreStep_waiting {s : State} (hhalt : s.halted = true) (hnone : s.pendingMask = 0) :
    coreStep s = .next { s with stepCycles := 4 } :=
  (if_pos hhalt).trans (if_pos hnone)

/-- A halted core with something pending executes as if it were not halted. -/
theorem step_waking {s : State} (hhalt : s.halted = true) (hsome : s.pendingMask ≠ 0) : step s = step { s with halted := false } := by
  have hcore : coreStep s = coreStep { s with halted := false } := (if_pos hhalt).trans (if_neg hsome)
  simp only [step, iterate, hcore]

/-- Settles O54: the wait of 4 cycles, or the step of the woken core. -/
theorem haltedStep : Obligations.HaltedStep := by
  refine fun s hl hhalt => ⟨fun hnone => ?_, step_waking hhalt⟩
  have hwait := coreStep_waiting hhalt hnone
  refine ⟨hwait, step_of_coreStep hl hwait hl, fun hime => ?_⟩
  rw [State.poll_of_ime_false (by simpa using hime)]
  simp [hhalt]

/-! ### DI and the step after it (R313, R345) -/

/-- After a DI only a pending EI resolves. -/
theorem State.resolvePending_after_di {s : State} (h : s.eiPending = false) : s.resolvePending 0xF3 = s := by
  simp [State.resolvePending, h]

theorem coreStep_di {s : State} (hl : s.live) (hrun : s.halted = false) (hei : s.eiPending = false)
    (hop : s.memRead s.pc = 0xF3) : coreStep s = .next { s with pc := s.pc + 1, diPending := true, stepCycles := 4 } := by
  have hexec : exec s.instrAtPc s.pastInstr = .next { s with pc := s.pc + 1, diPending := true, stepCycles := 4 } := by
    rw [State.instrAtPc, State.pastInstr, hop]; rfl
  rw [coreStep_of_exec hrun hexec hl, hop]
  exact congrArg Host.Outcome.next (State.resolvePending_after_di hei)

/-- An instruction at pc leaves an EI pending exactly when one was pending or it is the EI. -/
theorem exec_instrAtPc_eiPending {s t : State} (ht : exec s.instrAtPc s.pastInstr = .next t) (hei : s.eiPending = false) :
    t.eiPending = decide (s.memRead s.pc = 0xFB) := by
  by_cases hop : s.memRead s.pc = 0xFB
  · rw [State.instrAtPc, hop] at ht
    cases ht
    exact (decide_eq_true hop).symm
  · rw [decide_eq_false hop]
    exact ((exec_controlFrame _ _ _ ht).eiPending (State.instrAtPc_ne rfl hop)).trans hei

/-- A recognized instruction other than DI ends the delay of a pending DI; an EI only leaves its own flag pending. -/
theorem coreStep_resolves_di {s : State} (hl : s.live) (hrun : s.halted = false) (hdi : s.diPending = true)
    (hei : s.eiPending = false) (hop : s.memRead s.pc ≠ 0xF3)
    (hrec : (decodeBytes (s.memRead s.pc) 0 0).unrecognized = false) :
    ∃ u, coreStep s = .next u ∧ u.ime = false ∧ u.diPending = false ∧ u.eiPending = decide (s.memRead s.pc = 0xFB) := by
  obtain ⟨t, ht, hlive⟩ := exec_instrAtPc_live hl hrec
  have htdi : t.diPending = true := ((exec_controlFrame _ _ _ ht).diPending (State.instrAtPc_ne rfl hop)).trans hdi
  have htei := exec_instrAtPc_eiPending ht hei
  refine ⟨_, coreStep_of_exec hrun ht hlive, ?_, ?_, ?_⟩
  · rw [State.resolvePending_ime, htei, if_neg (by simp), if_pos ⟨htdi, hop⟩]
  · rw [State.resolvePending_diPending, beq_false_of_ne hop, Bool.and_false]
  · rw [State.resolvePending_eiPending, htei]
    exact Bool.and_self _

/-- Settles O53: DI's own step resolves nothing, and the next one resolves it after its instruction. -/
theorem disableInterruptDelay : Obligations.DisableInterruptDelay :=
  ⟨fun _ => coreStep_di, fun _ => coreStep_resolves_di⟩

end Sys2Proof.Machine

/-! ## PROOFS: The frame call: every step that does not fault costs at least 4 cycles, so the call ends by its budget or a fault. -/

namespace Sys2Proof.Machine

/-! ### The cycles of an instruction (R101) -/

theorem done_cycles {c : Nat} {u t : State} (hc : 4 ≤ c) (h : done c u = .next t) : 4 ≤ t.stepCycles := by cases h; exact hc

theorem locCycles_ge {n reg mem : Nat} (hreg : n ≤ reg) (hmem : n ≤ mem) (x : Loc8) : n ≤ locCycles reg mem x := by
  cases x with
  | reg r => exact hreg
  | mHL => exact hmem

theorem aluCycles_ge (src : AluSrc) : 4 ≤ aluCycles src := by
  cases src with
  | loc x => exact locCycles_ge (by decide) (by decide) x
  | imm n => exact Nat.le_add_left 4 4

/-- A recognized instruction costs at least 4 cycles. -/
theorem exec_cycles (i : Instr) (s t : State) (h : exec i s = .next t) (hi : i.unrecognized = false) : 4 ≤ t.stepCycles := by
  induction i using Instr.byGroup with
  | ldReg x y => rw [exec_ldReg] at h; exact done_cycles (by decide) h
  | ldRegMem x => rw [exec_ldRegMem] at h; exact done_cycles (by decide) h
  | ldMemReg x => rw [exec_ldMemReg] at h; exact done_cycles (by decide) h
  | ldRegImm x n => rw [exec_ldRegImm] at h; exact done_cycles (by decide) h
  | ldR16 p n => rw [exec_ldR16] at h; exact done_cycles (by decide) h
  | push p => rw [exec_push] at h; exact done_cycles (by decide) h
  | pop p => rw [exec_pop] at h; exact done_cycles (by decide) h
  | alu op src => rw [exec_alu] at h; exact done_cycles (aluCycles_ge src) h
  | inc8 x => rw [exec_inc8] at h; exact done_cycles (locCycles_ge (by decide) (by decide) x) h
  | dec8 x => rw [exec_dec8] at h; exact done_cycles (locCycles_ge (by decide) (by decide) x) h
  | addHL p => rw [exec_addHL] at h; exact done_cycles (by decide) h
  | inc16 p => rw [exec_inc16] at h; exact done_cycles (by decide) h
  | dec16 p => rw [exec_dec16] at h; exact done_cycles (by decide) h
  | jpCond cc a => rw [exec_jpCond, jumpIf] at h; split at h <;> exact done_cycles (by decide) h
  | jrCond cc e => rw [exec_jrCond, jumpRelIf] at h; split at h <;> exact done_cycles (by decide) h
  | callCond cc a => rw [exec_callCond, callIf] at h; split at h <;> exact done_cycles (by decide) h
  | retCond cc => rw [exec_retCond, returnIf] at h; split at h <;> exact done_cycles (by decide) h
  | rst y => rw [exec_rst] at h; exact done_cycles (by decide) h
  | rot op x => rw [exec_rot] at h; exact done_cycles (locCycles_ge (by decide) (by decide) x) h
  | bit n x => rw [exec_bit] at h; exact done_cycles (locCycles_ge (by decide) (by decide) x) h
  | res n x => rw [exec_res] at h; exact done_cycles (locCycles_ge (by decide) (by decide) x) h
  | set n x => rw [exec_set] at h; exact done_cycles (locCycles_ge (by decide) (by decide) x) h
  | unrecognized_D3 | unrecognized_DB | unrecognized_DD | unrecognized_E3 | unrecognized_E4 | unrecognized_EB | unrecognized_EC
  | unrecognized_ED | unrecognized_F4 | unrecognized_FC | unrecognized_FD => cases hi
  | _ => exact done_cycles (by decide) h

/-! ### The cycles of an iteration (R361, R363) -/

/-- A step of the core costs at least 4 cycles or faults. -/
theorem coreStep_cycles {s t : State} (h : coreStep s = .next t) : 4 ≤ t.stepCycles ∨ t.fault ≠ none := by
  rcases coreStep_cases s with ⟨-, -, hwait⟩ | ⟨-, hrun⟩
  · rw [hwait] at h
    cases h
    exact .inl (Nat.le_refl 4)
  · obtain ⟨u, hu, hstep⟩ := fetchExecute_eq { s with halted := false }
    rw [hrun, hstep] at h
    cases h
    by_cases hlive : u.fault = none
    · rw [if_pos hlive, State.resolvePending_stepCycles]
      refine .inl (exec_cycles _ _ _ hu (Bool.eq_false_of_not_eq_true fun hi => ?_))
      obtain ⟨b, hb, -⟩ := exec_unrecognized _ _ hi
      rw [hb] at hu
      cases hu
      cases hlive
    · rw [if_neg hlive]
      exact .inr hlive

/-- An iteration from a state without a fault ends in a state, at least 4 cycles on or with a fault. -/
theorem step_advances {s : State} (hl : s.live) :
    ∃ t, step s = .next t ∧ (s.frameCycles + 4 ≤ t.frameCycles ∨ t.fault ≠ none) := by
  obtain ⟨t, ht⟩ := coreStep_next s
  by_cases hlive : t.fault = none
  · have hcycles : 4 ≤ t.stepCycles := (coreStep_cycles ht).resolve_right (not_not_intro hlive)
    exact ⟨_, step_of_coreStep hl ht hlive, .inl (Nat.add_le_add_left hcycles _)⟩
  · exact ⟨t, step_of_coreStep_fault hl ht hlive, .inr hlive⟩

/-! ### The frame call's loop (D30, D40; log 10) -/

/-- The frame call's run from a state: some number of steps, the last state over the budget or faulted, and none before it. -/
def RunsToBudget (budget : Nat) (s : State) (k : Nat) (t : State) : Prop :=
  Host.Core.run core k s = .next t ∧ (t.frameCycles > budget ∨ t.fault ≠ none) ∧
    ∀ j, j < k → ∃ u : State, Host.Core.run core j s = .next u ∧ u.frameCycles ≤ budget ∧ u.fault = none

theorem run_succ_of_step {s t : State} (h : step s = .next t) (k : Nat) : Host.Core.run core (k + 1) s = Host.Core.run core k t := by
  have hcore : core.step s = .next t := h
  simp only [Host.Core.run, hcore]

theorem RunsToBudget.succ {budget : Nat} {s s' t : State} {k : Nat} (hstep : step s = .next s') (hcycles : s.frameCycles ≤ budget)
    (hl : s.fault = none) (h : RunsToBudget budget s' k t) : RunsToBudget budget s (k + 1) t := by
  obtain ⟨hrun, hend, hbefore⟩ := h
  refine ⟨(run_succ_of_step hstep k).trans hrun, hend, fun j hj => ?_⟩
  cases j with
  | zero => exact ⟨s, rfl, hcycles, hl⟩
  | succ j =>
    rw [run_succ_of_step hstep]
    exact hbefore j (Nat.lt_of_succ_lt_succ hj)

/-- Fuel for the cycles left to the budget is enough: each unit of it brings 4 cycles or a fault. -/
theorem frameLoop_runsToBudget (budget fuel : Nat) (s : State) (hfuel : budget < s.frameCycles + 4 * fuel ∨ s.fault ≠ none) :
    ∃ k t, frameLoop budget fuel s = .next t ∧ RunsToBudget budget s k t := by
  induction fuel generalizing s with
  | zero => exact ⟨0, s, rfl, rfl, hfuel, nofun⟩
  | succ fuel ih =>
    by_cases hgo : s.frameCycles ≤ budget ∧ s.fault = none
    · obtain ⟨hcycles, hl⟩ := hgo
      obtain ⟨s', hstep, hadvance⟩ := step_advances hl
      have hfuel' : budget < s'.frameCycles + 4 * fuel ∨ s'.fault ≠ none :=
        hadvance.imp_left fun _ => by have := hfuel.resolve_right (not_not_intro hl); omega
      obtain ⟨k, t, hloop, hruns⟩ := ih s' hfuel'
      have hiterate : iterate s = .next s' := hstep
      exact ⟨k + 1, t, by rw [frameLoop, if_pos ⟨hcycles, hl⟩, hiterate]; exact hloop, hruns.succ hstep hcycles hl⟩
    · exact ⟨0, s, if_neg hgo, rfl, by rwa [not_and_or, not_le] at hgo, nofun⟩

/-- Settles O59: a frame call's fuel is enough from a count of 0. -/
theorem frameCallRunsToBudget : Obligations.FrameCallRunsToBudget := by
  intro budget s
  have hfuel : budget < 0 + 4 * (budget / 4 + 1) := by omega
  obtain ⟨k, t, hloop, hrun, hend, hbefore⟩ :=
    frameLoop_runsToBudget budget (budget / 4 + 1) { s with frameCycles := 0 } (.inl hfuel)
  exact ⟨k, t, hrun, hloop, hend, hbefore⟩

end Sys2Proof.Machine

/-! ## PROOFS: RENDER's answers as a script: nothing but the head of an iteration's script is read, so the answers of any RENDER are
the script of a run. -/

namespace Sys2Proof.Machine

/-! ### Operations over the bus do not see the script -/

/-- The state with another script of RENDER's answers. -/
def State.withScript (s : State) (script : List RenderAnswer) : State := { s with renderScript := script }

section

variable (s : State) (script : List RenderAnswer)

@[simp] theorem State.memWrite_withScript (a : Word) (v : Byte) :
    (s.withScript script).memWrite a v = (s.memWrite a v).withScript script := by
  simpa [State.withScript] using s.memWrite_setImeHaltedScript s.ime s.halted script a v

@[simp] theorem State.push16_withScript (v : Word) : (s.withScript script).push16 v = (s.push16 v).withScript script := by
  rw [State.push16_eq, State.push16_eq, State.memWrite_withScript, State.memWrite_withScript]
  rfl

@[simp] theorem State.writeLoc_withScript (x : Loc8) (v : Byte) :
    (s.withScript script).writeLoc x v = (s.writeLoc x v).withScript script := by
  cases x with
  | reg r => cases r <;> rfl
  | mHL => exact s.memWrite_withScript script s.hl v

/-- The read, change and write of an r8 operand, with the flags. -/
theorem State.writeLoc_setFlags_withScript (x : Loc8) (v : Byte) (fl : Flags) :
    ((s.withScript script).writeLoc x v).setFlags fl = ((s.writeLoc x v).setFlags fl).withScript script := by
  rw [State.writeLoc_withScript]
  rfl

/-- A call. -/
theorem State.push16_setPc_withScript (v a : Word) :
    ({ (s.withScript script).push16 v with pc := a } : State) = ({ s.push16 v with pc := a } : State).withScript script := by
  rw [State.push16_withScript]
  rfl

end

/-! ### Every instruction -/

section

variable {s t u u' : State} {script : List RenderAnswer}

theorem done_withScript {c : Nat} (hu : u' = u.withScript script) (h : done c u = .next t) :
    done c u' = .next (t.withScript script) := by
  subst hu
  cases h
  rfl

/-- An instruction of two cases, where the condition does not see the script. -/
theorem ite_withScript {c : Prop} [Decidable c] {taken kept taken' kept' : Result}
    (htaken : taken = .next t → taken' = .next (t.withScript script)) (hkept : kept = .next t → kept' = .next (t.withScript script))
    (h : (if c then taken else kept) = .next t) : (if c then taken' else kept') = .next (t.withScript script) := by
  split at h
  · exact (if_pos ‹c›).trans (htaken h)
  · exact (if_neg ‹¬c›).trans (hkept h)

/-- An instruction neither reads nor writes the script. -/
theorem exec_withScript (i : Instr) (h : exec i s = .next t) : exec i (s.withScript script) = .next (t.withScript script) := by
  induction i using Instr.byGroup with
  | ldReg x y => rw [exec_ldReg] at h ⊢; exact done_withScript (by cases x <;> rfl) h
  | ldRegMem x => rw [exec_ldRegMem] at h ⊢; exact done_withScript (by cases x <;> rfl) h
  | ldMemReg x => rw [exec_ldMemReg] at h ⊢; exact done_withScript (s.memWrite_withScript script _ _) h
  | ldRegImm x n => rw [exec_ldRegImm] at h ⊢; exact done_withScript (by cases x <;> rfl) h
  | ldR16 p n => rw [exec_ldR16] at h ⊢; exact done_withScript (by cases p <;> rfl) h
  | push p => rw [exec_push] at h ⊢; exact done_withScript (s.push16_withScript script _) h
  | pop p => rw [exec_pop] at h ⊢; exact done_withScript (by cases p <;> rfl) h
  | alu op src => rw [exec_alu] at h ⊢; exact done_withScript (by cases op <;> rfl) h
  | inc8 x => rw [exec_inc8] at h ⊢; exact done_withScript (s.writeLoc_setFlags_withScript script x _ _) h
  | dec8 x => rw [exec_dec8] at h ⊢; exact done_withScript (s.writeLoc_setFlags_withScript script x _ _) h
  | addHL p => rw [exec_addHL] at h ⊢; exact done_withScript rfl h
  | inc16 p => rw [exec_inc16] at h ⊢; exact done_withScript (by cases p <;> rfl) h
  | dec16 p => rw [exec_dec16] at h ⊢; exact done_withScript (by cases p <;> rfl) h
  | jpCond cc a => rw [exec_jpCond] at h ⊢; exact ite_withScript (done_withScript rfl) (done_withScript rfl) h
  | jrCond cc e => rw [exec_jrCond] at h ⊢; exact ite_withScript (done_withScript rfl) (done_withScript rfl) h
  | callCond cc a =>
    rw [exec_callCond] at h ⊢
    exact ite_withScript (done_withScript (s.push16_setPc_withScript script _ _)) (done_withScript rfl) h
  | retCond cc => rw [exec_retCond] at h ⊢; exact ite_withScript (done_withScript rfl) (done_withScript rfl) h
  | rot op x => rw [exec_rot] at h ⊢; exact done_withScript (s.writeLoc_setFlags_withScript script x _ _) h
  | res n x => rw [exec_res] at h ⊢; exact done_withScript (s.writeLoc_withScript script x _) h
  | set n x => rw [exec_set] at h ⊢; exact done_withScript (s.writeLoc_withScript script x _) h
  | bit n x => rw [exec_bit] at h ⊢; exact done_withScript rfl h
  | rst y => rw [exec_rst] at h ⊢; exact done_withScript (s.push16_setPc_withScript script _ _) h
  | call_a16 a => exact done_withScript (s.push16_setPc_withScript script _ _) h
  | ld_ma16_SP a => exact done_withScript (by rw [State.memWrite_withScript, State.memWrite_withScript]; rfl) h
  | ld_mHL_n8 | ldh_ma8_A | ld_ma16_A | ld_mBC_A | ld_mDE_A | ld_mC_A =>
    exact done_withScript (s.memWrite_withScript script _ _) h
  | ld_mHLinc_A | ld_mHLdec_A => exact done_withScript (by rw [State.memWrite_withScript]; rfl) h
  | _ => cases h; rfl

/-! ### The core's step -/

/-- Resolving the pending flags writes them and `ime` alone (R345). -/
theorem State.resolvePending_eq (s : State) (op : Byte) :
    s.resolvePending op =
      { s with
        ime := if s.eiPending = true ∧ op ≠ 0xFB then true else if s.diPending = true ∧ op ≠ 0xF3 then false else s.ime
        diPending := s.diPending && op == 0xF3
        eiPending := s.eiPending && op == 0xFB } := by
  rw [← State.resolvePending_ime, ← State.resolvePending_diPending, ← State.resolvePending_eiPending]
  simp only [State.resolvePending]
  split_ifs <;> rfl

theorem State.resolvePending_withScript (op : Byte) :
    (s.withScript script).resolvePending op = (s.resolvePending op).withScript script := by
  rw [State.resolvePending_eq, State.resolvePending_eq]
  rfl

theorem fetchExecute_withScript (h : fetchExecute s = .next t) :
    fetchExecute (s.withScript script) = .next (t.withScript script) := by
  obtain ⟨u, hu, hstep⟩ := fetchExecute_eq s
  obtain ⟨u', hu', hstep'⟩ := fetchExecute_eq (s.withScript script)
  have hexec : exec (s.withScript script).instrAtPc (s.withScript script).pastInstr = .next (u.withScript script) :=
    exec_withScript s.instrAtPc hu
  rw [hstep] at h
  rw [hexec] at hu'
  cases h
  cases hu'
  rw [hstep', State.resolvePending_withScript, apply_ite (State.withScript · script)]
  rfl

theorem coreStep_withScript (h : coreStep s = .next t) : coreStep (s.withScript script) = .next (t.withScript script) := by
  rcases coreStep_cases s with ⟨hhalt, hnone, hwait⟩ | ⟨hgo, hrun⟩
  · rw [hwait] at h
    cases h
    exact coreStep_waiting hhalt hnone
  · rw [hrun] at h
    rcases coreStep_cases (s.withScript script) with ⟨hhalt, hnone, -⟩ | ⟨-, hrun'⟩
    · exact absurd ⟨hhalt, hnone⟩ hgo
    · exact hrun'.trans (fetchExecute_withScript h)

/-! ### The rest of the iteration -/

theorem State.service_withScript (n : IrqSource) : (s.withScript script).service n = (s.service n).withScript script := by
  rw [State.service_eq, State.service_eq]
  have hcleared (v : Byte) : (s.withScript script).setWin addrIF v = (s.setWin addrIF v).withScript script := rfl
  simp only [hcleared, State.memWrite_withScript]
  rfl

theorem State.tick_withScript (cyc : Nat) : (s.withScript script).tick cyc = (s.tick cyc).withScript script := by
  simp only [State.tick, State.tickTimer, apply_ite (State.withScript · script)]
  rfl

theorem State.applyAnswer_withScript (ans : RenderAnswer) :
    (s.withScript script).applyAnswer ans = (s.applyAnswer ans).withScript script := by
  obtain ⟨vblank, lcdStat⟩ := ans
  cases vblank <;> cases lcdStat <;> rfl

theorem State.poll_withScript : (s.withScript script).poll = s.poll.withScript script := by
  have hpending : (s.withScript script).pendingMask = s.pendingMask := rfl
  have hime : (s.withScript script).ime = s.ime := rfl
  rw [State.poll, State.poll, hpending, hime]
  cases s.ime with
  | false => rfl
  | true =>
    cases lowestSource s.pendingMask with
    | none => rfl
    | some n => exact State.service_withScript n

theorem State.settle_withScript (ans : RenderAnswer) : (s.withScript script).settle ans = (s.settle ans).withScript script := by
  rw [State.settle, State.applyAnswer_withScript, State.poll_withScript]
  rfl

/-- The rest of an iteration takes the head of the script, as a RENDER that gives this answer. -/
theorem State.afterStep_withScript_cons (hl : s.fault = none) (ans : RenderAnswer) :
    (s.withScript (ans :: script)).afterStep = ((s.tick s.stepCycles).settle ans).withScript script := by
  rw [afterStep_live (s.withScript (ans :: script)) hl, State.tick_withScript, ← State.settle_withScript]
  rfl

/-! ### The answers of a RENDER as a script (R350, D31; log 4) -/

/-- An iteration under a RENDER is a step that takes RENDER's answer from the script's head, or takes none because it faulted. -/
theorem step_of_iterateUnder {render : Renderer} {h h' : Nat} (hiterate : iterateUnder render (s, h) = .next (t, h')) :
    ∃ answers : List RenderAnswer, ∀ rest, step (s.withScript (answers ++ rest)) = .next (t.withScript rest) := by
  obtain ⟨u, hu⟩ := coreStep_next s
  unfold iterateUnder at hiterate
  cases hl : s.fault with
  | some r => simp [hl] at hiterate
  | none =>
    have hscripted (script : List RenderAnswer) : (s.withScript script).live := hl
    cases hlive : u.fault with
    | some r =>
      simp only [hl, hu, hlive] at hiterate
      cases hiterate
      exact ⟨[], fun rest => step_of_coreStep_fault (hscripted rest) (coreStep_withScript hu) fun e => by cases hlive.symm.trans e⟩
    | none =>
      simp only [hl, hu, hlive] at hiterate
      cases hiterate
      refine ⟨[(render h (u.tick u.stepCycles).stepCycles (u.tick u.stepCycles).memRead).1], fun rest => ?_⟩
      rw [step_eq_afterStep (hscripted _) (coreStep_withScript hu), List.singleton_append, State.afterStep_withScript_cons hlive]

theorem run_of_runUnder (render : Renderer) (k : Nat) (s t : State) (h h' : Nat) (hrun : runUnder render k (s, h) = .next (t, h')) :
    ∃ answers : List RenderAnswer, ∀ rest, Host.Core.run core k (s.withScript (answers ++ rest)) = .next (t.withScript rest) := by
  induction k generalizing s h with
  | zero => cases hrun; exact ⟨[], fun rest => rfl⟩
  | succ k ih =>
    rw [runUnder] at hrun
    split at hrun
    · next y hy =>
      obtain ⟨first, hfirst⟩ := step_of_iterateUnder (t := y.1) (h' := y.2) hy
      obtain ⟨later, hlater⟩ := ih y.1 y.2 hrun
      refine ⟨first ++ later, fun rest => ?_⟩
      rw [List.append_assoc, run_succ_of_step (hfirst _)]
      exact hlater rest
    · cases hrun
    · cases hrun

end

/-- Settles O60: the answers given in the run, with nothing after them. -/
theorem renderScriptsCoverRender : Obligations.RenderScriptsCoverRender := by
  intro render k s t h h' hrun
  obtain ⟨answers, hanswers⟩ := run_of_runUnder render k s t h h' hrun
  exact ⟨answers ++ [], hanswers []⟩

end Sys2Proof.Machine

/-! ## PROOFS: Power-on: the cartridge array that an image becomes, the window and external RAM at reset, and the legal state. -/

namespace Sys2Proof.Machine

/-! ### The cartridge array of an image -/

/-- A listed byte stands inside the image and is not 0x00. -/
theorem imageCells_bounds {n : Nat} {image : List Byte} {x : Host.Cell} (h : x ∈ imageCells n image) :
    n ≤ x.1 ∧ x.1 < n + image.length ∧ x.2 ≠ Storage.unlisted .cart x.1 := by
  induction image generalizing n with
  | nil => cases h
  | cons v rest ih =>
    have hrest (hx : x ∈ imageCells (n + 1) rest) :
        n ≤ x.1 ∧ x.1 < n + (v :: rest).length ∧ x.2 ≠ Storage.unlisted .cart x.1 := by
      obtain ⟨hlow, hhigh, hlisted⟩ := ih hx
      rw [List.length_cons]
      exact ⟨by omega, by omega, hlisted⟩
    rw [imageCells] at h
    split at h
    · exact hrest h
    · next hv =>
      rcases List.mem_cons.mp h with rfl | hx
      · exact ⟨Nat.le_refl n, by simp, hv⟩
      · exact hrest hx

theorem imageCells_pairwise (n : Nat) (image : List Byte) : (imageCells n image).Pairwise fun x y => x.1 < y.1 := by
  induction image generalizing n with
  | nil => exact .nil
  | cons v rest ih =>
    rw [imageCells]
    split
    · exact ih (n + 1)
    · exact .cons (fun _ hx => (imageCells_bounds hx).1) (ih (n + 1))

theorem imageCells_wf (image : List Byte) (h : image.length ≤ 0x200000) : Memory.wf .cart (imageCells 0 image) := by
  refine ⟨imageCells_pairwise 0 image, fun x hx => ?_⟩
  obtain ⟨-, hhigh, hlisted⟩ := imageCells_bounds hx
  have hsize : Storage.size .cart = 0x200000 := rfl
  exact ⟨by omega, hlisted⟩

/-- The array reads as the image, and as 0x00 past its end (R379, D5). -/
theorem read_imageCells (n k : Nat) (image : List Byte) :
    Memory.read .cart (imageCells n image) (n + k) = image.getD k 0x00 := by
  induction image generalizing n k with
  | nil => rfl
  | cons v rest ih =>
    have hfirst : Memory.read .cart (imageCells (n + 1) rest) n = 0x00 :=
      Memory.read_of_not_listed .cart _ n fun _ hx => Nat.ne_of_gt (imageCells_bounds hx).1
    have hlater (j : Nat) : Memory.read .cart (imageCells (n + 1) rest) (n + (j + 1)) = rest.getD j 0x00 := by
      rw [← ih (n + 1) j, Nat.add_assoc, Nat.add_comm 1 j]
    rw [imageCells]
    split
    · next hv =>
      cases k with
      | zero => exact hfirst.trans hv.symm
      | succ j => exact hlater j
    · rw [Memory.read]
      cases k with
      | zero => exact if_pos rfl
      | succ j => rw [if_neg (by omega)]; exact hlater j

@[simp] theorem State.powerOn_cartByte (image : List Byte) (n : Nat) : (State.powerOn image).cartByte n = image.getD n 0x00 := by
  rw [← read_imageCells 0 n image, Nat.zero_add]
  rfl

/-! ### The controller that the type byte selects -/

@[simp] theorem State.powerOn_mbc (image : List Byte) : (State.powerOn image).mbc = mbcOfType (image.getD 0x147 0x00) :=
  congrArg mbcOfType (State.powerOn_cartByte image 0x147)

theorem mbcOfType_eq (t : Byte) :
    mbcOfType t = if t.toNat ∈ [1, 2, 3] then .mbc1 else if t.toNat ∈ [5, 6] then .mbc2 else .noController := by
  simp [mbcOfType, BitVec.toNat_eq]

theorem mbcOfType_eq_mbc1_iff (t : Byte) : mbcOfType t = .mbc1 ↔ t.toNat ∈ [1, 2, 3] := by
  rw [mbcOfType_eq]
  split_ifs with h1 h2
  · exact ⟨fun _ => h1, fun _ => rfl⟩
  · exact ⟨nofun, (absurd · h1)⟩
  · exact ⟨nofun, (absurd · h1)⟩

theorem mbcOfType_eq_mbc2_iff (t : Byte) : mbcOfType t = .mbc2 ↔ t.toNat ∈ [5, 6] := by
  have hdisjoint : ∀ n ∈ [1, 2, 3], n ∉ [5, 6] := by decide
  rw [mbcOfType_eq]
  split_ifs with h1 h2
  · exact ⟨nofun, (absurd · (hdisjoint _ h1))⟩
  · exact ⟨fun _ => h2, fun _ => rfl⟩
  · exact ⟨nofun, (absurd · h2)⟩

/-! ### The window at reset -/

/-- Where R373 lists no default, or lists 0x00, the window is 0x00 (R374). -/
theorem State.reset_winByte_eq_zero (a : Word) (h : ∀ x ∈ ioPowerOn, x.2 ≠ 0x00 → a.toNat ≠ x.1) :
    State.reset.winByte a = 0x00 := by
  change (ioPowerOn.lookup a.toNat).getD 0x00 = 0x00
  cases hl : ioPowerOn.lookup a.toNat with
  | none => rfl
  | some v =>
    obtain ⟨before, after, heq, -⟩ := List.lookup_eq_some_iff.mp hl
    have hmem : (a.toNat, v) ∈ ioPowerOn := by rw [heq]; simp
    exact by_contra fun hv => h _ hmem hv rfl

/-! ### The legal state -/

/-- The ROM bank of power-on is legal for every controller (R40, R376). -/
theorem Mbc.legalRomBank_one (m : Mbc) : m.legalRomBank 1 := by
  cases m <;> simp [Mbc.legalRomBank]

theorem State.powerOn_inv (image : List Byte) (h : image.length ≤ 0x200000) : (State.powerOn image).Inv := by
  have hform : (State.powerOn image).memoryForm := ⟨Memory.nil_wf .win, Memory.nil_wf .eram, imageCells_wf image h⟩
  have hbanking : (State.powerOn image).banking.Legal := ⟨Mbc.legalRomBank_one _, fun _ => rfl, fun _ => rfl, fun _ => rfl⟩
  have hcountdown : (1 : Int) ≤ 1024 ∧ (1024 : Int) ≤ 1024 := by decide
  have hflags : (0xB0 : Byte) &&& 0x0F = 0 := by decide
  have hlive : (State.powerOn image).LiveLegal := ⟨⟨hform, rfl, hbanking, hcountdown⟩, hflags, nofun, rfl⟩
  exact hlive.inv

theorem State.powerOn_nil : State.powerOn [] = State.reset := rfl

/-- Settles O36: reset is power-on with the empty image, and power-on with any image that fits is legal. -/
theorem resetMeetsInvariant : Obligations.ResetMeetsInvariant :=
  ⟨State.powerOn_nil ▸ State.powerOn_inv [] (Nat.zero_le _), State.powerOn_inv⟩

/-! ### The values after power-on -/

theorem loadCartridge_fits {image : List Byte} (h : image.length ≤ 0x200000) : loadCartridge image = .ok (State.powerOn image) :=
  if_pos h

theorem loadCartridge_tooLong {image : List Byte} (h : 0x200000 < image.length) : loadCartridge image = .error .imageTooLong :=
  if_neg (Nat.not_le.mpr h)

/-- Settles O57: the load path by the length of the image, the cartridge by its cells, and the window by the list of R373. -/
theorem powerOnWithImage : Obligations.PowerOnWithImage := by
  refine ⟨fun _ => loadCartridge_tooLong, fun image h => ⟨State.powerOn image, loadCartridge_fits h, rfl, ?_, ?_, ?_⟩,
    State.powerOn_nil, ?_, ?_, ?_, fun _ => rfl⟩
  · exact State.powerOn_cartByte image
  · rw [State.powerOn_mbc]; exact mbcOfType_eq_mbc1_iff _
  · rw [State.powerOn_mbc]; exact mbcOfType_eq_mbc2_iff _
  · decide
  · decide
  · intro a ha
    have hlisted : ∀ x ∈ ioPowerOn, x.2 ≠ 0x00 → x.1 ∈ [0xFF10, 0xFF11, 0xFF12, 0xFF14, 0xFF16, 0xFF19, 0xFF1A, 0xFF1B,
        0xFF1C, 0xFF1E, 0xFF20, 0xFF23, 0xFF24, 0xFF25, 0xFF26, 0xFF40, 0xFF47, 0xFF48, 0xFF49] := by decide
    exact State.reset_winByte_eq_zero a fun x hx hv hax => ha (hax ▸ hlisted x hx hv)

/-- Settles O56: the register values that `State.reset` writes, and the pairs and flags read from them. -/
theorem resetRegisters : Obligations.ResetRegisters := by
  unfold Obligations.ResetRegisters
  decide

end Sys2Proof.Machine
